-- ==== Sys2Proof/Word.lean ====
section
/-! DEFINITION. The word types of the block: a byte, the 16-bit response value, and a five-byte frame.
00_scope.md R7, R8; 10_state.md R11, R12; 20_memory.md R40. -/

namespace Sys2Proof

/-- A byte is 8 bits (R7). Bit 7 is its most significant bit (R8). -/
abbrev Byte := BitVec 8

/-- The 16 bits of `RSP_VALUE` (R26). -/
abbrev Half := BitVec 16

/-- "Frame: exactly 5 bytes" (R40): `byte0` to `byte4`. There is no sixth byte (R11). -/
structure Frame where
  byte0 : Byte
  byte1 : Byte
  byte2 : Byte
  byte3 : Byte
  byte4 : Byte
  deriving DecidableEq, Repr, Inhabited

/-- The frame of five zero bytes. -/
abbrev Frame.zero : Frame := { byte0 := 0, byte1 := 0, byte2 := 0, byte3 := 0, byte4 := 0 }

end Sys2Proof
end

