-- ==== Sys2Proof/Config.lean ====
section
/-! DEFINITION. The configuration of an instance (00_scope.md R6, R7; 10_state.md R24; 60_exceptions.md R157), the
input ports (10_state.md R31 to R36), and the free values: opaque constants with no body. -/

namespace Sys2Proof

/-- "MODEL is a type of exactly two values" (R24). -/
inductive SensorModel where
  | simple
  | scaled
  deriving DecidableEq, Repr, Inhabited

/-- "where an encoding is needed, SIMPLE = 0, SCALED = 1" (R24). -/
def SensorModel.code : SensorModel → BitVec 1
  | .simple => 0
  | .scaled => 1

/-- The parameters of R6, in the order of its table, with its defaults. `MODEL` and `THRESHOLD` have none: they must be
given. `tTickNs` is `T_TICK` in nanoseconds (DESIGN CHOICE of unit, log 12); no rule uses it. -/
structure Params where
  model          : SensorModel
  threshold      : Nat
  tTickNs        : Nat := 1000
  settleTicks    : Nat := 250000
  resetTicks     : Nat := 20000
  releaseTicks   : Nat := 40
  maxTransitions : Nat := 85
  timeoutCount   : Nat := 255
  minIntervalMs  : Nat := 2000
  tsWidth        : Nat := 32
  deriving DecidableEq, Repr

namespace Params

/-- 0 ≤ THRESHOLD ≤ TIMEOUT_COUNT − 2 (R6). -/
def thresholdOk (p : Params) : Bool := p.threshold + 2 ≤ p.timeoutCount

/-- SETTLE_TICKS ≥ 1 (R6). -/
def settleOk (p : Params) : Bool := 1 ≤ p.settleTicks

/-- RESET_TICKS ≥ 1 (R6). -/
def resetOk (p : Params) : Bool := 1 ≤ p.resetTicks

/-- 10 ≤ RELEASE_TICKS ≤ 99 "at a 1 µs tick" (R6); at another tick any positive count (DEDUCED from the remark on
program P4 of 95_test_vectors.md, log 12). -/
def releaseOk (p : Params) : Bool :=
  1 ≤ p.releaseTicks && (p.tTickNs != 1000 || (10 ≤ p.releaseTicks && p.releaseTicks ≤ 99))

/-- 1 ≤ MAX_TRANSITIONS ≤ 127 (R6). -/
def maxTransitionsOk (p : Params) : Bool := 1 ≤ p.maxTransitions && p.maxTransitions ≤ 127

/-- 2 ≤ TIMEOUT_COUNT ≤ 255 (R6). -/
def timeoutOk (p : Params) : Bool := 2 ≤ p.timeoutCount && p.timeoutCount ≤ 255

/-- 0 ≤ MIN_INTERVAL_MS < 2^TS_WIDTH (R6). -/
def intervalOk (p : Params) : Bool := p.minIntervalMs < 2 ^ p.tsWidth

/-- TS_WIDTH ≥ 1 (R6). -/
def tsWidthOk (p : Params) : Bool := 1 ≤ p.tsWidth

/-- Every constraint of R6. -/
def wf (p : Params) : Bool :=
  p.thresholdOk && p.settleOk && p.resetOk && p.releaseOk && p.maxTransitionsOk && p.timeoutOk && p.intervalOk &&
    p.tsWidthOk

/-- max(SETTLE_TICKS, RESET_TICKS, RELEASE_TICKS): `TMR` counts below it (R16, R39). -/
def timerLimit (p : Params) : Nat := max p.settleTicks (max p.resetTicks p.releaseTicks)

/-- `TMR_W`, "the least number of bits that holds max(…) − 1" (R16). -/
def timerWidth (p : Params) : Nat := Nat.log2 (p.timerLimit - 1) + 1

end Params

/-- The configuration of an instance: parameters that meet R6. "the constraints are premises of the configuration
record" (R157): a record that breaks one cannot be built, which is the refusal R157 and 93 U9 speak of. -/
structure Config extends Params where
  legal : toParams.wf = true
  deriving DecidableEq, Repr

/-- The input ports as they stand at one tick (R31, R32, R34, R36). `nowMs` is read through the `TS_WIDTH` wires of the
port (`Machine.sampledTime`, log 9). -/
structure Inputs where
  /-- `rst`: "at a tick with rst = 1 the step is the reset step" (R31). -/
  rst      : Bool
  /-- `cmd_valid` (R32). -/
  cmdValid : Bool
  /-- `cmd_op`, the command word (R32, R60). -/
  cmdOp    : BitVec 2
  /-- `line_in`: "the level of the line, 1 = high" (R34). -/
  lineIn   : Bool
  /-- `now_ms`: "the platform's free-running time counter" (R36). -/
  nowMs    : Nat
  deriving DecidableEq, Repr, Inhabited

/-- The registers that R38 calls unspecified after reset, as one bundle of values. -/
structure Unspecified where
  lr    : Frame
  lrTs  : Nat
  tsNew : Nat
  buf   : Frame
  nbits : Nat
  tidx  : Nat
  dur   : Nat
  cur   : Bool
  timedOut : Bool
  tmr   : Nat
  sel   : Bool
  deriving DecidableEq, Repr, Inhabited

/-- FREE VALUE: the input ports at a tick that nobody has laid down ("a model takes line_in as a free input at every
tick", R34; `now_ms` likewise, R36; 93 U1, U2, U13). Log 1. -/
opaque Config.freeInputs : Nat → Inputs

/-- FREE VALUE: what the registers that R175 leaves unspecified hold after a reset step. Log 4. -/
opaque Config.freeRegisters : Nat → Unspecified

/-- OPEN: the `MODEL` of the instance that `State.reset` describes; "must be given" (R6). Log 2. -/
opaque Config.openModel : SensorModel

/-- OPEN: the `THRESHOLD` of the instance that `State.reset` describes; "OPEN, must be given" (R6, D13); at most
TIMEOUT_COUNT − 2 = 253 for the default TIMEOUT_COUNT. Log 2. -/
opaque Config.openThreshold : Fin 254

/-- The open parameters with every default of R6. -/
def Config.openParams : Params := { model := Config.openModel, threshold := Config.openThreshold.val }

/-- The defaults of R6 are legal whatever the open values are. -/
theorem Config.openParams_wf : Config.openParams.wf = true := by
  have h : Config.openThreshold.val < 254 := Config.openThreshold.isLt
  simp [Params.wf, Params.thresholdOk, Params.settleOk, Params.resetOk, Params.releaseOk, Params.maxTransitionsOk,
    Params.timeoutOk, Params.intervalOk, Params.tsWidthOk, Config.openParams]
  omega

/-- The configuration of `State.reset`: `MODEL` and `THRESHOLD` open, every other parameter at its default (R6). -/
def Config.given : Config := { toParams := Config.openParams, legal := Config.openParams_wf }

end Sys2Proof
end

