-- ==== Sys2Proof/Syntax.lean ====
section
/-! DEFINITION. The host's commands (30_encoding.md R60, R61, R72; opcode_table.json) and the symbol widths a pulse train
is built from (R71). -/

namespace Sys2Proof

/-- The four command words, one constructor per row of opcode_table.json. "There is no operand field, no immediate, no
register field and no mode field" (R60). -/
inductive Instr where
  /-- `0b00`, `initialize()` (R136). -/
  | init
  /-- `0b01`, `readHumidity()` (R137). -/
  | rdhum
  /-- `0b10`, `readTemperature(useFahrenheit = false)` (R138). -/
  | rdtemp
  /-- `0b11`, the reserved word (R140). -/
  | rsvd
  deriving DecidableEq, Repr, Inhabited

/-- The mnemonics of R60 and R72. -/
def Instr.mnemonic : Instr → String
  | .init   => "INIT"
  | .rdhum  => "RDHUM"
  | .rdtemp => "RDTEMP"
  | .rsvd   => "RSVD"

/-- The host's pseudo-operation `readBoth` = `RDHUM` then `RDTEMP` (R72, R48). -/
def readBoth : List Instr := [.rdhum, .rdtemp]

/-- The durations a test train is built from (R71): the lead-in L0 to L3, the separator S, and the widths D0 and D1 of
the two data symbols, in ticks. -/
structure PulseWidths where
  lead0 : Nat
  lead1 : Nat
  lead2 : Nat
  lead3 : Nat
  sep   : Nat
  zero  : Nat
  one   : Nat
  deriving DecidableEq, Repr

end Sys2Proof
end

