-- ==== Sys2Proof/Machine/State.lean ====
section
/-! DEFINITION. The state of the machine, its reset value, and the reasons a step may stop. 10_state.md. -/

namespace Sys2Proof.Machine

/-- The six values of `PHASE` (R13). "Values 6 and 7 are never written by any rule and are unreachable from reset; a
model may make PHASE a six-constructor type" (log 8). -/
inductive Phase where
  | idle
  | settle
  | resetlow
  | release
  | sample
  | eval
  deriving DecidableEq, Repr, Inhabited

/-- The encoding of `PHASE` (R13). -/
def Phase.code : Phase → BitVec 3
  | .idle     => 0
  | .settle   => 1
  | .resetlow => 2
  | .release  => 3
  | .sample   => 4
  | .eval     => 5

/-- The status codes of R63; 6 and 7 are "never produced" (log 8). -/
inductive Status where
  | ok
  | timeout
  | shortFrame
  | checksum
  | longFrame
  | badCmd
  deriving DecidableEq, Repr, Inhabited

/-- The numbers of R63. -/
def Status.code : Status → BitVec 3
  | .ok         => 0
  | .timeout    => 1
  | .shortFrame => 2
  | .checksum   => 3
  | .longFrame  => 4
  | .badCmd     => 5

/-- The failure kinds of R151 to R155. -/
inductive FailKind where
  | timeout
  | shortFrame
  | checksum
  | longFrame
  | badCmd
  deriving DecidableEq, Repr, Inhabited

/-- The status a failure kind is reported as (R156). -/
def FailKind.status : FailKind → Status
  | .timeout    => .timeout
  | .shortFrame => .shortFrame
  | .checksum   => .checksum
  | .longFrame  => .longFrame
  | .badCmd     => .badCmd

/-- The block has no fault at run time (R168). These four are the "stuck" of 93 U10: a register holds a value that no
rule can produce. Safe: no state that meets `Machine.BlockInv` raises one (log 6). -/
inductive Fault where
  /-- Raised by a SETTLE, RESETLOW or RELEASE tick with `TMR` beyond the range of R39. Safe. -/
  | tmrOutOfRange
  /-- Raised by a SAMPLE tick with `DUR` above TIMEOUT_COUNT (U10, R17). Safe. -/
  | durOutOfRange
  /-- Raised by a SAMPLE tick with `TIDX` above MAX_TRANSITIONS (U10, R14). Safe. -/
  | tidxOutOfRange
  /-- Raised by a SAMPLE or EVAL tick with `NBITS` above 41 (U10, R15). Safe. -/
  | nbitsOutOfRange
  deriving DecidableEq, Repr

/-- The block refuses nothing at run time (R168); a configuration outside R6 is refused before there is a state
(`elaborateConfig`). -/
inductive Refusal where
  /-- Raised by an arm of `exec` for a command that has no meaning yet. No arm does. Safe. -/
  | notModelled (mnemonic : String)
  deriving DecidableEq, Repr

/-- Everything the spec gives the machine (R11 to R27), the instance's constants (R24, log 2), and the model's own
fields for the outside world (log 1). -/
structure State where
  /-- The configuration: constant for the life of the instance (R6, R24); no step writes it. -/
  cfg       : Config
  /-- `PHASE` (R13). -/
  phase     : Phase
  /-- `TMR`, ticks inside SETTLE, RESETLOW and RELEASE (R16). -/
  tmr       : Nat
  /-- `TIDX`, 7 bits: the index of the transition now being timed (R14). -/
  tidx      : Nat
  /-- `NBITS`, 6 bits: data bits decoded in this pass, saturating at 41 (R15). -/
  nbits     : Nat
  /-- `DUR`, 8 bits: the duration counter (R17). -/
  dur       : Nat
  /-- `CUR`: the line level now being timed, true = high (R19). -/
  cur       : Bool
  /-- `TO`: the pass was ended by saturation of `DUR` (R20). -/
  timedOut  : Bool
  /-- `SEL`: false = humidity, true = temperature (R21). -/
  sel       : Bool
  /-- `WARM`: false = Cold, true = Warm (R18). -/
  warm      : Bool
  /-- `BUF[0]` to `BUF[4]` (R11). -/
  buf       : Frame
  /-- `LR[0]` to `LR[4]`, the frame of LastReading (R12). -/
  lr        : Frame
  /-- `LR_TS`, TS_WIDTH bits: the timestamp of LastReading (R22). -/
  lrTs      : Nat
  /-- `TS_NEW`, TS_WIDTH bits: `now_ms` at the acceptance of the read in progress (R23). -/
  tsNew     : Nat
  /-- `RSP_STATUS` (R25). -/
  rspStatus : Status
  /-- `RSP_VALUE` (R26). -/
  rspValue  : Half
  /-- `RSP_VALID` (R27). -/
  rspValid  : Bool
  /-- The input ports as they stand at this tick (R10, R31 to R36). The model's own field (log 1). -/
  inp       : Inputs
  /-- The input ports of the ticks to come, as far as they are laid down. The model's own field (log 1). -/
  script    : List Inputs
  /-- The counter at which free values are drawn. The model's own field (log 1, log 4). -/
  draws     : Nat
  deriving DecidableEq, Repr

/-- NAN16, "the 16-bit pattern 0x8000" (R64). -/
abbrev nan16 : Half := 0x8000#16

/-- The machine right after reset (R38, R175). `PHASE`, `WARM`, `RSP_STATUS`, `RSP_VALUE` and `RSP_VALID` are the
spec's; every other register is "unspecified" and holds 0 here (DESIGN CHOICE, unsafe, log 3); the configuration is
R6's with MODEL and THRESHOLD open (log 2); the input ports are quiet (DESIGN CHOICE, log 5). -/
def State.reset : State where
  cfg       := Config.given
  phase     := .idle
  tmr       := 0
  tidx      := 0
  nbits     := 0
  dur       := 0
  cur       := false
  timedOut  := false
  sel       := false
  warm      := false
  buf       := Frame.zero
  lr        := Frame.zero
  lrTs      := 0
  tsNew     := 0
  rspStatus := .ok
  rspValue  := nan16
  rspValid  := false
  inp       := { rst := false, cmdValid := false, cmdOp := 0, lineIn := true, nowMs := 0 }
  script    := []
  draws     := 0

end Sys2Proof.Machine
end

