-- ==== Sys2Proof/Machine/Operands.lean ====
section
/-! DEFINITION. What the rules read: a byte or bit of a frame (20_memory.md R41), the sampled time (10_state.md R36), and
the value of a frame in each layout (42_decoder_assembler.md R115 to R117, 30_encoding.md R69, R70). -/

namespace Sys2Proof.Machine

/-- Byte k of a frame, k = 0 to 4 (R40). -/
def frameGet (f : Frame) (k : Fin 5) : Byte :=
  match k with
  | 0 => f.byte0
  | 1 => f.byte1
  | 2 => f.byte2
  | 3 => f.byte3
  | 4 => f.byte4

/-- The frame with byte k replaced. -/
def frameSet (f : Frame) (k : Fin 5) (v : Byte) : Frame :=
  match k with
  | 0 => { f with byte0 := v }
  | 1 => { f with byte1 := v }
  | 2 => { f with byte2 := v }
  | 3 => { f with byte3 := v }
  | 4 => { f with byte4 := v }

/-- Data bit k of a frame, k = 0 to 39 in the order received: "bit k is BUF[k div 8][7 − (k mod 8)]" (R41). -/
def frameBit (f : Frame) (k : Fin 40) : Bool :=
  (frameGet f ⟨k.val / 8, by omega⟩).getLsbD (7 - k.val % 8)

/-- `now_ms` as the block samples it: TS_WIDTH bits, unsigned (R36; log 9). -/
def sampledTime (s : State) : Nat := s.inp.nowMs % 2 ^ s.cfg.tsWidth

/-- neg16(v) = (2^16 − v) mod 2^16 (R8). -/
def neg16 (v : Half) : Half := BitVec.ofNat 16 (2 ^ 16 - v.toNat)

/-- A scaled word `{0b0, hi[6:0], lo[7:0]}` (R116, R69, R43): bit 7 of the high byte is masked off. -/
def scaledWord (hi lo : Byte) : Half := 0#1 ++ hi.extractLsb' 0 7 ++ lo

/-- `ValueSimple(sel, f)` (R115, R70): zext_16(f[0]) or zext_16(f[2]). -/
def valueSimple (sel : Bool) (f : Frame) : Half :=
  if sel then f.byte2.setWidth 16 else f.byte0.setWidth 16

/-- `ValueScaled(sel, f)` (R116, R69). -/
def valueScaled (sel : Bool) (f : Frame) : Half :=
  if sel then
    if f.byte2.getLsbD 7 then neg16 (scaledWord f.byte2 f.byte3) else scaledWord f.byte2 f.byte3
  else scaledWord f.byte0 f.byte1

/-- `Value(sel, f)` by the model tag; "neither falls into the other" (R117). -/
def value (m : SensorModel) (sel : Bool) (f : Frame) : Half :=
  match m with
  | .simple => valueSimple sel f
  | .scaled => valueScaled sel f

/-- The scale `rsp_value` is divided by to give the physical value (R62). -/
def scaleOf (m : SensorModel) : Nat :=
  match m with
  | .simple => 1
  | .scaled => 10

/-- The integer a successful read's `rsp_value` stands for, before the division by the scale (R62): unsigned, but for
the SCALED temperature, which is two's complement. -/
def reading (m : SensorModel) (sel : Bool) (v : Half) : Int :=
  match m, sel with
  | .scaled, true => v.toInt
  | _, _ => (v.toNat : Int)

end Sys2Proof.Machine
end

