-- ==== Sys2Proof/Machine/Flags.lean ====
section
/-! DEFINITION. Every one-bit decision the rules make: the throttle check (43_reading_cache.md R126), selection and
classification of a transition (42_decoder_assembler.md R107, R108), the checksum (R112), the verdict of the EVAL tick
(R109), and the register ranges of 10_state.md R39 / 93_implementation_defined.md U10. -/

namespace Sys2Proof.Machine

/-- `Hit(t)` (R126): Warm, not rolled over (R130), and within the interval. The subtraction is done only under
t ≥ `LR_TS`. -/
def hit (s : State) (t : Nat) : Bool :=
  s.warm && (decide (s.lrTs ≤ t) && decide (t - s.lrTs < s.cfg.minIntervalMs))

/-- DISCARD = 4 (R7). -/
def discardCount : Nat := 4

/-- "Transition i is a data transition exactly when i ≥ DISCARD = 4 and i is even" (R107, R66). -/
def isData (i : Nat) : Bool := decide (discardCount ≤ i) && i % 2 == 0

/-- "bit = 1 if d > THRESHOLD, bit = 0 if d ≤ THRESHOLD; the comparison is unsigned and strict" (R67, R108). -/
def bitOf (threshold d : Nat) : Bool := decide (threshold < d)

/-- (byte0 + byte1 + byte2 + byte3) mod 256, "low 8 bits" of the sum (R112). -/
def checksumOf (f : Frame) : Nat :=
  (f.byte0.toNat + f.byte1.toNat + f.byte2.toNat + f.byte3.toNat) % 256

/-- The checksum check of R112. -/
def checksumOk (f : Frame) : Bool := f.byte4.toNat == checksumOf f

/-- The verdict of the EVAL tick (R109 to R112, R158): bit count first, then checksum; `none` is success. -/
def verdict (nbits : Nat) (timedOut : Bool) (f : Frame) : Option FailKind :=
  if nbits < 40 then some (if timedOut then .timeout else .shortFrame)
  else if 40 < nbits then some .longFrame
  else if checksumOk f then none
  else some .checksum

/-- `TMR` is in the range of R39 (log 6). -/
def tmrStuck (s : State) : Bool := decide (s.cfg.timerLimit ≤ s.tmr)

/-- The register a SAMPLE tick would find out of range, if any (U10, log 6). -/
def sampleStuck (s : State) : Option Fault :=
  if s.cfg.timeoutCount < s.dur then some .durOutOfRange
  else if s.cfg.maxTransitions < s.tidx then some .tidxOutOfRange
  else if 41 < s.nbits then some .nbitsOutOfRange
  else none

/-- `NBITS` is beyond the range of R15 (U10, log 6). -/
def evalStuck (s : State) : Bool := decide (41 < s.nbits)

end Sys2Proof.Machine
end

