-- ==== Sys2Proof/Machine/Ops.lean ====
section
/-! DEFINITION. The shared operations over the registers: `ShiftIn`, `Commit`, the completion of a command, the taking of
a failure, `StartRun`, the cache hit, `Read`, `EnterSample`, `DecodeTransition`, the reset step, and the change of the
input ports from one tick to the next. -/

namespace Sys2Proof.Machine

/-- The buffer half of `ShiftIn(b)` (R42): `BUF[j] <- {BUF[j][6:0], b}` with j = NBITS div 8, while NBITS < 40. -/
def shiftFrame (f : Frame) (n : Nat) (b : Bool) : Frame :=
  if h : n < 40 then
    let j : Fin 5 := ⟨n / 8, by omega⟩
    frameSet f j ((frameGet f j).extractLsb' 0 7 ++ BitVec.ofBool b)
  else f

/-- `ShiftIn(b)` (R42): "A bit arriving when NBITS ≥ 40 is counted and not stored". -/
def shiftIn (b : Bool) (s : State) : State :=
  { s with buf := shiftFrame s.buf s.nbits b, nbits := min (s.nbits + 1) 41 }

/-- `DecodeTransition(i, d)` (R108). -/
def decodeTransition (i d : Nat) (s : State) : State :=
  if isData i then shiftIn (bitOf s.cfg.threshold d) s else s

/-- `Commit()` (R45): all seven writes at one tick. -/
def commit (s : State) : State :=
  { s with lr := s.buf, lrTs := s.tsNew, warm := true }

/-- A completion writes `RSP_STATUS` and `RSP_VALUE` together and sets `RSP_VALID` (R25 to R27, R46). -/
def complete (st : Status) (v : Half) (s : State) : State :=
  { s with rspStatus := st, rspValue := v, rspValid := true }

/-- `fail <Kind>`: the taking of a failure (R150, R159): the kind's code, NAN16, `RSP_VALID`. "Nothing is saved, because
nothing is interrupted: there is no handler, no vector, no mode change, no mask change, no stack" and "There is no return
instruction" (R160). The EVAL tick adds PHASE <- IDLE; BAD_CMD arises in IDLE already (R155). -/
def fail (k : FailKind) (s : State) : State := complete k.status nan16 s

/-- `StartRun(sel, t)` (R139): `RSP_STATUS` and `RSP_VALUE` keep the previous response. -/
def startRun (sel : Bool) (t : Nat) (s : State) : State :=
  { s with sel := sel, tsNew := t, tmr := 0, phase := .settle, rspValid := false }

/-- The cache hit (R128): `OK` and the value of `LR`; nothing else is written. -/
def cacheHit (sel : Bool) (s : State) : State := complete .ok (value s.cfg.model sel s.lr) s

/-- `Read(sel)` (R135): hit or run. -/
def readCommand (sel : Bool) (s : State) : State :=
  if hit s (sampledTime s) then cacheHit sel s else startRun sel (sampledTime s) s

/-- `Init()` (R136): `WARM <- 0`, response `OK` with no value. `LR` and `LR_TS` are not written. -/
def initCommand (s : State) : State := complete .ok nan16 { s with warm := false }

/-- `Reserved()` (R140): `BAD_CMD`; "nothing else is written". -/
def reservedCommand (s : State) : State := fail .badCmd s

/-- `EnterSample()` (R84). -/
def enterSample (s : State) : State :=
  { s with phase := .sample, cur := true, dur := 0, tidx := 0, nbits := 0, timedOut := false, buf := Frame.zero }

/-- The reset step's writes (R175). "every other register: unspecified after reset": each takes a free value of its
width, drawn at the counter (log 4). -/
def resetRegisters (s : State) : State :=
  let u := Config.freeRegisters s.draws
  { s with
    phase := .idle
    warm := false
    rspStatus := .ok
    rspValue := nan16
    rspValid := false
    lr := u.lr
    lrTs := u.lrTs % 2 ^ s.cfg.tsWidth
    tsNew := u.tsNew % 2 ^ s.cfg.tsWidth
    buf := u.buf
    nbits := u.nbits % 64
    tidx := u.tidx % 128
    dur := u.dur % 256
    cur := u.cur
    timedOut := u.timedOut
    tmr := u.tmr % 2 ^ s.cfg.timerWidth
    sel := u.sel }

/-- The input ports of the tick after the present one: what the outside world has laid down, else a free value (R34,
R36; log 1). -/
def nextInputs (s : State) : Inputs :=
  match s.script with
  | []     => Config.freeInputs s.draws
  | i :: _ => i

/-- The passing of a tick on the outside: the next inputs stand at the ports. No register changes. -/
def advanceInputs (s : State) : State :=
  { s with inp := nextInputs s, script := s.script.tail, draws := s.draws + 1 }

/-- A command word put on the command port of an idle block, for the very next tick (log 10). -/
def presentCommand (w : BitVec 2) (s : State) : State :=
  { s with phase := .idle, inp := { s.inp with rst := false, cmdValid := true, cmdOp := w } }

end Sys2Proof.Machine
end

