-- ==== Sys2Proof/Machine/Assembler.lean ====
section
/-! DEFINITION. The Frame Assembler's tick (42_decoder_assembler.md R109 to R114). -/

namespace Sys2Proof.Machine

/-- A successful run (R113): `Commit`, `OK`, the value of the frame just committed. -/
def succeed (s : State) : State := complete .ok (value s.cfg.model s.sel s.buf) (commit s)

/-- The EVAL tick (R109): the verdict decides between success (R113) and failure (R114); either way PHASE <- IDLE. -/
def evalTick (s : State) : Host.Outcome State Fault Refusal :=
  if evalStuck s then .fault .nbitsOutOfRange
  else
    match verdict s.nbits s.timedOut s.buf with
    | none   => .next { succeed s with phase := .idle }
    | some k => .next { fail k s with phase := .idle }

end Sys2Proof.Machine
end

