-- ==== Sys2Proof/WellFormed.lean ====
section
/-! DEFINITION. Well-formedness of commands, of the widths of a test train, of a pulse train and of an input. The
constraints on a configuration are `Params.wf` (Config.lean). -/

namespace Sys2Proof

/-- A command has no operand (R60), so there is nothing an `Instr` could get wrong: all four words of the table are
commands, the reserved one too (R61). -/
def Instr.wf : Instr → Bool
  | .init | .rdhum | .rdtemp | .rsvd => true

namespace PulseWidths

/-- D0 ≤ THRESHOLD (R71). -/
def zeroOk (p : Params) (w : PulseWidths) : Bool := w.zero ≤ p.threshold

/-- THRESHOLD < D1 (R71). -/
def oneOk (p : Params) (w : PulseWidths) : Bool := p.threshold < w.one

/-- "all below TIMEOUT_COUNT" (R71). -/
def shortOk (p : Params) (w : PulseWidths) : Bool :=
  w.lead0 < p.timeoutCount && w.lead1 < p.timeoutCount && w.lead2 < p.timeoutCount && w.lead3 < p.timeoutCount &&
    w.sep < p.timeoutCount && w.zero < p.timeoutCount && w.one < p.timeoutCount

/-- The conditions R71 puts on the durations of `Encode`. -/
def wf (p : Params) (w : PulseWidths) : Bool := w.zeroOk p && w.oneOk p && w.shortOk p

end PulseWidths

/-- A pulse train one pass can yield: each duration is at most TIMEOUT_COUNT − 1 (R66, R93) and there are at most
MAX_TRANSITIONS of them (R90). -/
def Train.wf (p : Params) (t : List Nat) : Bool :=
  t.all (fun d => d < p.timeoutCount) && t.length ≤ p.maxTransitions

/-- `now_ms` is a port of TS_WIDTH wires (R36). -/
def Inputs.wf (p : Params) (i : Inputs) : Bool := i.nowMs < 2 ^ p.tsWidth

end Sys2Proof
end

