-- ==== Sys2Proof/Decode.lean ====
section
/-! DEFINITION. Decoding and encoding of the 2-bit command word (30_encoding.md R60, R61; opcode_table.json). -/

namespace Sys2Proof

/-- One row of opcode_table.json: the word matches where word AND mask = pattern. -/
structure OpcodeRow where
  mask    : BitVec 2
  pattern : BitVec 2
  instr   : Instr
  deriving DecidableEq, Repr

/-- opcode_table.json, row by row. -/
def opcodeTable : List OpcodeRow :=
  [ { mask := 0x3#2, pattern := 0x0#2, instr := .init },
    { mask := 0x3#2, pattern := 0x1#2, instr := .rdhum },
    { mask := 0x3#2, pattern := 0x2#2, instr := .rdtemp },
    { mask := 0x3#2, pattern := 0x3#2, instr := .rsvd } ]

/-- The command a word of the command port stands for (R60). All four words have a row, so this is total. -/
def decode (w : BitVec 2) : Instr :=
  if w = 0b00#2 then .init
  else if w = 0b01#2 then .rdhum
  else if w = 0b10#2 then .rdtemp
  else .rsvd

/-- The word of a command, from R60's table. -/
def encode : Instr → BitVec 2
  | .init   => 0b00#2
  | .rdhum  => 0b01#2
  | .rdtemp => 0b10#2
  | .rsvd   => 0b11#2

/-- `cmd_op[1]`: "the value selector latched into SEL (0 = humidity, 1 = temperature)" (R60, R139). -/
def selectorBit (w : BitVec 2) : Bool := w.getLsbD 1

/-- Why a byte string holds no command. -/
inductive DecodeReject where
  /-- The string is empty: there is no word. -/
  | noWord
  /-- A bit above the two of `cmd_op` is set: the command port has no such wire (R32, R60). -/
  | notTwoBits
  deriving DecidableEq, Repr

/-- Decoding of a byte string: a command is carried in the two low bits of one byte, the other six 0 (DESIGN CHOICE, log
11: the block has no memory and no bytes of commands, R49, R52). Gives the command and the rest of the string. -/
def decodeBytes : List Byte → Except DecodeReject (Instr × List Byte)
  | []        => .error .noWord
  | b :: rest => if b.toNat < 4 then .ok (decode (b.setWidth 2), rest) else .error .notTwoBits

/-- The bytes a command is carried in (log 11). -/
def encodeBytes (i : Instr) : List Byte := [(encode i).setWidth 8]

/-- `n` bytes of the number `w`, the least significant first. -/
def bytesOf : Nat → Nat → List Byte
  | 0,     _ => []
  | n + 1, w => BitVec.ofNat 8 w :: bytesOf n (w / 256)

/-- What the decoder reads from a table word of `nbits` bits (in whole bytes) whose value is `w`; a set bit anywhere
above the two of `cmd_op` is no command. -/
def decodeTableWord (nbits w : Nat) : Option Instr :=
  match decodeBytes (bytesOf ((nbits + 7) / 8) w) with
  | .ok (i, rest) => if rest.all (fun b => b == 0#8) then some i else none
  | .error _      => none

end Sys2Proof
end

