-- ==== Sys2Proof/Machine/Commands.lean ====
section
/-! DEFINITION. The meanings of the four commands at the tick they are accepted (44_commands.md). Acceptance itself (PHASE
= IDLE, cmd_valid = 1, rst = 0) is the step's (R32; log 10). -/

namespace Sys2Proof.Machine

/-- `INIT` (R136). -/
def execInit (s : State) : Host.Outcome State Fault Refusal := .next (initCommand s)

/-- `RDHUM` (R137): `Read(sel = 0)`. -/
def execRdhum (s : State) : Host.Outcome State Fault Refusal := .next (readCommand false s)

/-- `RDTEMP` (R138): `Read(sel = 1)`; the `useFahrenheit = false` form only. -/
def execRdtemp (s : State) : Host.Outcome State Fault Refusal := .next (readCommand true s)

/-- The reserved word (R140). -/
def execRsvd (s : State) : Host.Outcome State Fault Refusal := .next (reservedCommand s)

end Sys2Proof.Machine
end

