-- ==== Sys2Proof/Machine/Dispatch.lean ====
section
/-! DEFINITION. One arm per command: the effect of accepting it. -/

namespace Sys2Proof.Machine

def exec (i : Instr) (s : State) : Host.Outcome State Fault Refusal :=
  match i with
  | .init => Sys2Proof.Machine.execInit s
  | .rdhum => Sys2Proof.Machine.execRdhum s
  | .rdtemp => Sys2Proof.Machine.execRdtemp s
  | .rsvd => Sys2Proof.Machine.execRsvd s

end Sys2Proof.Machine
end

