-- ==== Sys2Proof/Machine/Idle.lean ====
section
/-! DEFINITION. The IDLE tick (44_commands.md R135, R141): where commands are accepted. -/

namespace Sys2Proof.Machine

/-- An IDLE tick with no command: "nothing changes but RSP_VALID <- 0" (R141). -/
def noCommand (s : State) : State := { s with rspValid := false }

/-- The IDLE tick (R135): the command on the port is decoded and executed. -/
def idleTick (s : State) : Host.Outcome State Fault Refusal :=
  if s.inp.cmdValid then exec (decode s.inp.cmdOp) s else .next (noCommand s)

end Sys2Proof.Machine
end

