-- ==== Sys2Proof/Machine/LineDriver.lean ====
section
/-! DEFINITION. The three driven phases (40_line_driver.md R80 to R84). -/

namespace Sys2Proof.Machine

/-- One tick inside a driven phase that is not its last: `TMR <- TMR + 1`, `RSP_VALID <- 0` (R81 to R83). -/
def countTmr (s : State) : State := { s with tmr := s.tmr + 1, rspValid := false }

/-- The last tick of SETTLE or RESETLOW: the next driven phase, `TMR <- 0` (R81, R82). -/
def enterDriven (p : Phase) (s : State) : State := { s with phase := p, tmr := 0, rspValid := false }

/-- The SETTLE tick (R81). -/
def settleTick (s : State) : Host.Outcome State Fault Refusal :=
  if tmrStuck s then .fault .tmrOutOfRange
  else if s.tmr = s.cfg.settleTicks - 1 then .next (enterDriven .resetlow s)
  else .next (countTmr s)

/-- The RESETLOW tick (R82). -/
def resetlowTick (s : State) : Host.Outcome State Fault Refusal :=
  if tmrStuck s then .fault .tmrOutOfRange
  else if s.tmr = s.cfg.resetTicks - 1 then .next (enterDriven .release s)
  else .next (countTmr s)

/-- The RELEASE tick (R83); its last one performs `EnterSample` (R84) and leaves `TMR` as it stands. -/
def releaseTick (s : State) : Host.Outcome State Fault Refusal :=
  if tmrStuck s then .fault .tmrOutOfRange
  else if s.tmr = s.cfg.releaseTicks - 1 then .next { enterSample s with rspValid := false }
  else .next (countTmr s)

end Sys2Proof.Machine
end

