-- ==== Sys2Proof/Machine/Sampler.lean ====
section
/-! DEFINITION. The Pulse Sampler's tick (41_pulse_sampler.md R90 to R96). -/

namespace Sys2Proof.Machine

/-- The level has not changed and `DUR` does not saturate (R92). -/
def countDur (s : State) : State := { s with dur := s.dur + 1, rspValid := false }

/-- Saturation (R95): `DUR <- TIMEOUT_COUNT`, `TO <- 1`, `PHASE <- EVAL`; the transition being timed is not completed. -/
def saturate (s : State) : State :=
  { s with dur := s.cfg.timeoutCount, timedOut := true, phase := .eval, rspValid := false }

/-- A transition has completed (R94): it is handed to the Bit Decoder at this tick, and the new level is timed. -/
def completeTransition (s : State) : State :=
  { decodeTransition s.tidx s.dur s with
    cur := s.inp.lineIn, dur := 0, tidx := s.tidx + 1, rspValid := false }

/-- The transition cap ends the pass (R96): `TO <- 0`, `PHASE <- EVAL`. -/
def endByCap (s : State) : State := { s with timedOut := false, phase := .eval }

/-- The SAMPLE tick (R91). The one sample serves both tests. -/
def sampleTick (s : State) : Host.Outcome State Fault Refusal :=
  match sampleStuck s with
  | some f => .fault f
  | none =>
    if s.inp.lineIn = s.cur then
      if s.dur + 1 = s.cfg.timeoutCount then .next (saturate s) else .next (countDur s)
    else if s.tidx + 1 = s.cfg.maxTransitions then .next (endByCap (completeTransition s))
    else .next (completeTransition s)

end Sys2Proof.Machine
end

