-- ==== Sys2Proof/Machine/Tick.lean ====
section
/-! DEFINITION. One tick of the block's registers (10_state.md R10, R13, R31). -/

namespace Sys2Proof.Machine

/-- The registers' part of a tick: reset overrides everything (R31, R175, R158); else the phase's tick. -/
def tick (s : State) : Host.Outcome State Fault Refusal :=
  if s.inp.rst then .next (resetRegisters s)
  else
    match s.phase with
    | .idle     => idleTick s
    | .settle   => settleTick s
    | .resetlow => resetlowTick s
    | .release  => releaseTick s
    | .sample   => sampleTick s
    | .eval     => evalTick s

/-- A tick's outcome with the next tick's inputs at the ports. -/
def thenAdvance (o : Host.Outcome State Fault Refusal) : Host.Outcome State Fault Refusal :=
  match o with
  | .next s    => .next (advanceInputs s)
  | .fault f   => .fault f
  | .refused r => .refused r

end Sys2Proof.Machine
end

