-- ==== Sys2Proof/Machine/Step.lean ====
section
/-! DEFINITION. "One tick is one step of the model" (10_state.md R10). -/

namespace Sys2Proof.Machine

/-- One step: one tick of the registers, then the next inputs stand at the ports (R10; log 1). -/
def step (s : State) : Host.Outcome State Fault Refusal := thenAdvance (tick s)

/-- The state with a command word on the command port of an idle block (log 10): `w` counts its bits as
opcode_table.json does, and the command port has the two low ones. -/
def State.withFetchWord (s : State) (_nbits w : Nat) : State := presentCommand (BitVec.ofNat 2 w) s

end Sys2Proof.Machine
end

