-- ==== Sys2Proof/Machine/Elaborate.lean ====
section
/-! DEFINITION. Elaboration of an instance (60_exceptions.md R157; 00_scope.md R6): the one place where the block's
description refuses anything (log 14). -/

namespace Sys2Proof.Machine

/-- A configuration as it is asked for: the model tag is a number, and nothing is checked yet. -/
structure Request where
  modelTag       : Nat
  threshold      : Nat
  tTickNs        : Nat := 1000
  settleTicks    : Nat := 250000
  resetTicks     : Nat := 20000
  releaseTicks   : Nat := 40
  maxTransitions : Nat := 85
  timeoutCount   : Nat := 255
  minIntervalMs  : Nat := 2000
  tsWidth        : Nat := 32
  deriving DecidableEq, Repr

/-- Why no instance is built (R157, 93 U9). -/
inductive ConfigFault where
  /-- "an unrecognized SensorModel tag at construction time" (R157). -/
  | unrecognisedModel
  /-- A parameter breaks a constraint of R6. -/
  | badParameter
  deriving DecidableEq, Repr

/-- The tag's model: SIMPLE = 0, SCALED = 1 (R24). -/
def modelOfTag (n : Nat) : Option SensorModel :=
  match n with
  | 0 => some .simple
  | 1 => some .scaled
  | _ => none

/-- The parameters a request asks for, with a model. -/
def Request.params (r : Request) (m : SensorModel) : Params where
  model          := m
  threshold      := r.threshold
  tTickNs        := r.tTickNs
  settleTicks    := r.settleTicks
  resetTicks     := r.resetTicks
  releaseTicks   := r.releaseTicks
  maxTransitions := r.maxTransitions
  timeoutCount   := r.timeoutCount
  minIntervalMs  := r.minIntervalMs
  tsWidth        := r.tsWidth

/-- Elaboration: an instance, or the configuration fault (R157). "There is no run-time check and no status code for
it." -/
def elaborateConfig (r : Request) : Except ConfigFault Config :=
  match modelOfTag r.modelTag with
  | none => .error .unrecognisedModel
  | some m =>
    if h : (r.params m).wf = true then .ok { toParams := r.params m, legal := h } else .error .badParameter

end Sys2Proof.Machine
end

