-- ==== Sys2Proof/Machine/Ports.lean ====
section
/-! DEFINITION. The output ports, functions of the registers alone (10_state.md R30 to R37). "A model must not add an
observation of BUF" (R28). -/

namespace Sys2Proof.Machine

/-- The output ports of R32 to R35. -/
structure Outputs where
  cmdReady   : Bool
  busy       : Bool
  lineOe     : Bool
  lineOut    : Bool
  irqInhibit : Bool
  rspValid   : Bool
  rspStatus  : BitVec 3
  rspValue   : Half
  deriving DecidableEq, Repr

/-- `cmd_ready` = 1 exactly when PHASE = IDLE (R32). -/
def cmdReady (s : State) : Bool := s.phase == .idle

/-- `busy` = 1 exactly when PHASE ≠ IDLE (R33). -/
def busy (s : State) : Bool := s.phase != .idle

/-- `line_oe`: the three driven phases (R34, R37). -/
def lineOe (s : State) : Bool :=
  match s.phase with
  | .settle | .resetlow | .release => true
  | .idle | .sample | .eval => false

/-- `line_out`: low in RESETLOW only (R37). -/
def lineOut (s : State) : Bool :=
  match s.phase with
  | .resetlow => false
  | .idle | .settle | .release | .sample | .eval => true

/-- `irq_inhibit` = 1 exactly when PHASE is RELEASE or SAMPLE (R35, R85). -/
def irqInhibit (s : State) : Bool :=
  match s.phase with
  | .release | .sample => true
  | .idle | .settle | .resetlow | .eval => false

/-- All outputs as they stand at a tick (R37, R33). -/
def outputs (s : State) : Outputs where
  cmdReady   := cmdReady s
  busy       := busy s
  lineOe     := lineOe s
  lineOut    := lineOut s
  irqInhibit := irqInhibit s
  rspValid   := s.rspValid
  rspStatus  := s.rspStatus.code
  rspValue   := s.rspValue

end Sys2Proof.Machine
end

