-- ==== Sys2Proof/Machine/Run.lean ====
section
/-! DEFINITION. Runs of several ticks, and the input ports a run will see. -/

namespace Sys2Proof.Machine

/-- k steps, stopping at the first fault or refusal. -/
def runTicks : Nat → State → Host.Outcome State Fault Refusal
  | 0, s => .next s
  | k + 1, s =>
    match step s with
    | .next s'   => runTicks k s'
    | .fault f   => .fault f
    | .refused r => .refused r

/-- The input ports at the k-th tick from s on (k = 0 is the present tick): what the script lays down, free values past
its end (log 1). -/
def inputsAt (s : State) (k : Nat) : Inputs :=
  match k with
  | 0     => s.inp
  | k + 1 => (s.script[k]?).getD (Config.freeInputs (s.draws + k))

/-- "The line as the sampler sees it": `line_in` at the ticks from the a-th on (R99's `wave`). -/
def waveFrom (s : State) (a : Nat) (n : Nat) : Bool := (inputsAt s (a + n)).lineIn

/-- No reset at the first k ticks from s on. -/
def NoReset (s : State) (k : Nat) : Prop := ∀ j < k, (inputsAt s j).rst = false

end Sys2Proof.Machine
end

