-- ==== Sys2Proof/Machine/Train.lean ====
section
/-! DEFINITION. A sampling pass, its pulse train and its frame as functions: `Pass` (41_pulse_sampler.md R99), `Decode`
(42_decoder_assembler.md R106), `Encode` (30_encoding.md R71). The train is "a ghost sequence, not storage" (R98): no
field of State holds it, and the step uses none of these functions (log 13). -/

namespace Sys2Proof.Machine

/-- How a pass ended (R99). -/
inductive Ended where
  | timeout
  | cap
  deriving DecidableEq, Repr

/-- What a pass gives (R99): the train, how it ended, and its length in ticks. -/
structure PassResult where
  train : List Nat
  ended : Ended
  ticks : Nat
  deriving DecidableEq, Repr

/-- The loop of `Pass` (R99), with fuel: n ticks have passed, `cur` has been seen for `dur` ticks. -/
def passLoop (p : Params) (wave : Nat → Bool) : Nat → Bool → Nat → List Nat → Nat → Option PassResult
  | 0, _, _, _, _ => none
  | fuel + 1, cur, dur, train, n =>
    if wave n = cur then
      if dur + 1 = p.timeoutCount then some { train := train, ended := .timeout, ticks := n + 1 }
      else passLoop p wave fuel cur (dur + 1) train (n + 1)
    else if train.length + 1 = p.maxTransitions then
      some { train := train ++ [dur], ended := .cap, ticks := n + 1 }
    else passLoop p wave fuel (wave n) 0 (train ++ [dur]) (n + 1)

/-- `Pass(wave)` (R99). The fuel is R97's bound on the length of a pass. -/
def pass (p : Params) (wave : Nat → Bool) : Option PassResult :=
  passLoop p wave (p.maxTransitions * p.timeoutCount) true 0 [] 0

/-- One round of `Decode`'s loop (R106), in the arithmetic the rule writes: `buf[j] = (2 · buf[j] + b) mod 256`. -/
def decodeEntry (threshold : Nat) (acc : Frame × Nat) (i d : Nat) : Frame × Nat :=
  if 4 ≤ i ∧ i % 2 = 0 then
    let b := if threshold < d then 1 else 0
    (if h : acc.2 < 40 then
        let j : Fin 5 := ⟨acc.2 / 8, by omega⟩
        frameSet acc.1 j (BitVec.ofNat 8 ((2 * (frameGet acc.1 j).toNat + b) % 256))
      else acc.1,
     min (acc.2 + 1) 41)
  else acc

/-- `Decode`'s loop over the entries from index i on (R106). -/
def decodeFrom (threshold : Nat) (acc : Frame × Nat) (i : Nat) : List Nat → Frame × Nat
  | []        => acc
  | d :: rest => decodeFrom threshold (decodeEntry threshold acc i d) (i + 1) rest

/-- `Decode(train)` (R106): the bytes and the number of data bits. -/
def decodeTrain (threshold : Nat) (train : List Nat) : Frame × Nat :=
  decodeFrom threshold (Frame.zero, 0) 0 train

/-- `Encode(f)` (R71): four lead-in durations, then a data duration and a separator for each of the 40 bits. -/
def encodeTrain (w : PulseWidths) (f : Frame) : List Nat :=
  [w.lead0, w.lead1, w.lead2, w.lead3] ++
    (List.finRange 40).flatMap (fun k => [if frameBit f k then w.one else w.zero, w.sep])

/-- The levels the line shows for a train, from level `lvl` on: each duration d as d ticks of the level, then one tick of
the other level, the tick that completes the transition (R93; 95_test_vectors.md, note to V57). -/
def trainLevels : Bool → List Nat → List Bool
  | _, []          => []
  | lvl, d :: rest => List.replicate d lvl ++ (!lvl) :: trainLevels (!lvl) rest

/-- The wave of a train: its levels from high on; "After the last entry the level stays". -/
def waveOfTrain (t : List Nat) (n : Nat) : Bool := ((trainLevels true t)[n]?).getD (t.length % 2 == 0)

/-- Ticks the transitions of a train take: (d_0 + 1) + ... + (d_(m−1) + 1) (R97). -/
def trainTicks : List Nat → Nat
  | []        => 0
  | d :: rest => (d + 1) + trainTicks rest

/-- The Bit Decoder's work on a train as the sampler hands it over, one transition at a time from index i on (R94,
R98). -/
def streamTrain (i : Nat) : List Nat → State → State
  | [], s        => s
  | d :: rest, s => streamTrain (i + 1) rest (decodeTransition i d s)

/-- What a run whose pass gives this train and ending reports (R109 applied to R106's result): `none` is success. -/
def trainVerdict (threshold : Nat) (r : PassResult) : Option FailKind :=
  verdict (decodeTrain threshold r.train).2 (r.ended == .timeout) (decodeTrain threshold r.train).1

/-- The number of data bits among the transitions before index t: "the number of even i with 4 ≤ i < TIDX, capped at
41" (R39). -/
def dataCount (t : Nat) : Nat := min 41 ((List.range t).filter isData).length

end Sys2Proof.Machine
end

