-- ==== Sys2Proof/Safety.lean ====
section
/-! DEFINITION. What a safe state is (10_state.md R12, R14 to R17, R19, R26, R39; 20_memory.md R44), what it is to accept
a read that misses, and when two states cannot be told apart (10_state.md R28, R38). -/

namespace Sys2Proof.Machine

/-- The bits of a pass with n data bits so far: byte k holds at most the n − 8k bits that have reached it, right-aligned
(R44), so a byte not yet reached is 0. -/
def PartialFrame (n : Nat) (f : Frame) : Prop := ∀ k : Fin 5, (frameGet f k).toNat < 2 ^ (n - 8 * k.val)

/-- The length of a driven phase in ticks (R81 to R83); 0 for the other phases. -/
def drivenTicks (p : Params) : Phase → Nat
  | .settle   => p.settleTicks
  | .resetlow => p.resetTicks
  | .release  => p.releaseTicks
  | .idle | .sample | .eval => 0

/-- The three phases in which the block drives the line (R80). -/
def Driven (p : Phase) : Prop := p = .settle ∨ p = .resetlow ∨ p = .release

/-- The invariant of the block. -/
structure BlockInv (s : State) : Prop where
  /-- `TMR` fits its TMR_W bits (R16). -/
  tmrFits   : s.tmr < 2 ^ s.cfg.timerWidth
  /-- `TIDX` fits its 7 bits (R14). -/
  tidxFits  : s.tidx < 2 ^ 7
  /-- `NBITS` fits its 6 bits (R15). -/
  nbitsFits : s.nbits < 2 ^ 6
  /-- `DUR` fits its 8 bits (R17). -/
  durFits   : s.dur < 2 ^ 8
  /-- `LR_TS` fits its TS_WIDTH bits (R22). -/
  lrTsFits  : s.lrTs < 2 ^ s.cfg.tsWidth
  /-- `TS_NEW` fits its TS_WIDTH bits (R23). -/
  tsNewFits : s.tsNew < 2 ^ s.cfg.tsWidth
  /-- "Invariant whenever WARM = 1" (R12): LastReading passes the checksum. -/
  warmFrame : s.warm = true → checksumOk s.lr = true
  /-- `RSP_VALUE` "only ever holds a value decoded from a checksum-validated frame, or NAN16" (R26), and a value only
  with status `OK`. -/
  response  : s.rspValue = nan16 ∨
    (s.rspStatus = .ok ∧ ∃ sel f, checksumOk f = true ∧ s.rspValue = value s.cfg.model sel f)
  /-- In a driven phase `TMR` is below the phase's length (R81 to R83, R39). -/
  driven    : Driven s.phase → s.tmr < drivenTicks s.cfg.toParams s.phase
  /-- In SAMPLE the counters are in range, `NBITS` counts the data transitions before `TIDX` (R39), and `CUR` = 1
  exactly when `TIDX` is even (R19). -/
  sampling  : s.phase = .sample →
    s.dur < s.cfg.timeoutCount ∧ s.tidx < s.cfg.maxTransitions ∧ s.nbits = dataCount s.tidx ∧
      s.cur = (s.tidx % 2 == 0) ∧ s.timedOut = false ∧ PartialFrame s.nbits s.buf
  /-- In EVAL the pass has ended by saturation (R95) or by the cap (R96), and `TO` says which (R20). -/
  ended     : s.phase = .eval →
    s.nbits = dataCount s.tidx ∧ PartialFrame s.nbits s.buf ∧
      ((s.timedOut = true ∧ s.dur = s.cfg.timeoutCount ∧ s.tidx < s.cfg.maxTransitions) ∨
        (s.timedOut = false ∧ s.dur = 0 ∧ s.tidx = s.cfg.maxTransitions))

/-- A command is accepted at this tick (R32). -/
def Accepts (s : State) (i : Instr) : Prop :=
  s.inp.rst = false ∧ s.inp.cmdValid = true ∧ s.phase = .idle ∧ decode s.inp.cmdOp = i

/-- The read command of a selector: `RDHUM` for humidity, `RDTEMP` for temperature (R137, R138). -/
def readOf (sel : Bool) : Instr := if sel then .rdtemp else .rdhum

/-- The throttle check fails at this tick: Cold, rolled over, or the interval has elapsed (R129). -/
def Misses (s : State) : Prop :=
  s.warm = false ∨ sampledTime s < s.lrTs ∨ s.cfg.minIntervalMs ≤ sampledTime s - s.lrTs

/-- The tick of a pipeline run, counted from the acceptance, at which its pass begins: S + R + L + 1 (R86). -/
def passStart (p : Params) : Nat := p.settleTicks + p.resetTicks + p.releaseTicks + 1

/-- A step that completes a command: "a cache hit, an INIT, a reserved command, or the EVAL tick" (R27). -/
def Completes (s : State) : Prop :=
  s.inp.rst = false ∧
    (s.phase = .eval ∨
      (s.phase = .idle ∧ s.inp.cmdValid = true ∧
        (decode s.inp.cmdOp = .init ∨ decode s.inp.cmdOp = .rsvd ∨
          (s.warm = true ∧ s.lrTs ≤ sampledTime s ∧ sampledTime s - s.lrTs < s.cfg.minIntervalMs))))

/-- Two states that agree on everything a rule can read before a rule writes it (R38, 93 U6, U7): the hidden registers
of R28 count only in the phases that read them, and LastReading only while Warm. -/
structure SameToTheBlock (s t : State) : Prop where
  cfg         : s.cfg = t.cfg
  phase       : s.phase = t.phase
  warm        : s.warm = t.warm
  rspStatus   : s.rspStatus = t.rspStatus
  rspValue    : s.rspValue = t.rspValue
  rspValid    : s.rspValid = t.rspValid
  inp         : s.inp = t.inp
  script      : s.script = t.script
  draws       : s.draws = t.draws
  lastReading : s.warm = true → s.lr = t.lr ∧ s.lrTs = t.lrTs
  running     : s.phase ≠ .idle → s.sel = t.sel ∧ s.tsNew = t.tsNew
  driven      : Driven s.phase → s.tmr = t.tmr
  sampling    : s.phase = .sample →
    s.cur = t.cur ∧ s.dur = t.dur ∧ s.tidx = t.tidx ∧ s.nbits = t.nbits ∧ s.buf = t.buf
  evaluating  : s.phase = .eval → s.timedOut = t.timedOut ∧ s.nbits = t.nbits ∧ s.buf = t.buf

end Sys2Proof.Machine
end

