-- ==== Sys2Proof/Certificates/Slice0/Obligations.lean ====
section
/-! DEFINITION. The statements for the provers, from the numbered rules of spec/. -/

open Sys2Proof Sys2Proof.Machine

/-! ### The command word -/

/-- R60: the four words of the command table, the value selector `cmd_op[1]` of the two reads, and a word with a bit
that `cmd_op` does not have, which is no command (the byte that carries a word is the model's choice, log 11). -/
def Obligations.TableWordsDecode : Prop :=
  decode 0b00#2 = .init ∧ decode 0b01#2 = .rdhum ∧ decode 0b10#2 = .rdtemp ∧ decode 0b11#2 = .rsvd ∧
    selectorBit (encode .rdhum) = false ∧ selectorBit (encode .rdtemp) = true ∧
    decodeTableWord 8 0b10 = some .rdtemp ∧ decodeTableWord 8 0b100 = none

/-- Decoding an encoded command gives it back, with whatever follows it; encoding a decoded word gives the word back; and
exactly one row of the opcode table matches a word (R60, R61). -/
def Obligations.CommandRoundTrip : Prop :=
  (∀ (i : Instr) (rest : List Byte), i.wf = true →
    decode (encode i) = i ∧ decodeBytes (encodeBytes i ++ rest) = .ok (i, rest)) ∧
  (∀ w : BitVec 2, encode (decode w) = w ∧
    (opcodeTable.filter (fun r => w &&& r.mask == r.pattern)).map OpcodeRow.instr = [decode w])

/-! ### The four commands -/

/-- R136: `INIT` makes the cache Cold and answers `OK` with NAN16; nothing else is written. It is accepted in IDLE only, so
it cannot cancel a run, and the line stays an input. -/
def Obligations.InitMakesCold : Prop :=
  (∀ s : State, exec .init s =
    .next { s with warm := false, rspStatus := .ok, rspValue := 0x8000#16, rspValid := true }) ∧
  (∀ s s' : State, Accepts s .init → cmdReady s = true ∧ (exec .init s = .next s' → s'.phase = .idle ∧ lineOe s' = false))

/-- R140, R155: the reserved word answers `BAD_CMD`, code 5, with NAN16; nothing else is written. -/
def Obligations.ReservedWordAnswersBadCmd : Prop :=
  (∀ s : State, exec .rsvd s = .next { s with rspStatus := .badCmd, rspValue := 0x8000#16, rspValid := true }) ∧
    Status.badCmd.code = 5#3

/-- R126, R128: a read within the interval answers from LastReading at once; nothing else is written. -/
def Obligations.ReadHitAnswersFromLastReading : Prop :=
  ∀ (sel : Bool) (s : State), s.warm = true → s.lrTs ≤ sampledTime s →
    sampledTime s - s.lrTs < s.cfg.minIntervalMs →
    exec (readOf sel) s =
      .next { s with rspStatus := .ok, rspValue := value s.cfg.model sel s.lr, rspValid := true }

/-- R129, R139: a read that is Cold, rolled over (R130) or past the interval starts a run; the selector is `cmd_op[1]`;
the previous response is kept. -/
def Obligations.ReadMissStartsRun : Prop :=
  ∀ (sel : Bool) (s : State), Misses s →
    exec (readOf sel) s =
      .next { s with sel := selectorBit (encode (readOf sel)), tsNew := sampledTime s, tmr := 0, phase := .settle,
                     rspValid := false }

/-- R126: the throttle check, with its corner cases: it holds exactly when the cache is Warm and the time lies from
`LR_TS` on to before `LR_TS` + MIN_INTERVAL_MS. -/
def Obligations.HitIsTheInterval : Prop :=
  ∀ (s : State) (t : Nat), hit s t = true ↔
    s.warm = true ∧ s.lrTs ≤ t ∧ t < s.lrTs + s.cfg.minIntervalMs

/-! ### The tick -/

/-- R32, R135: at an IDLE tick with `cmd_valid` = 1 and `rst` = 0, the step is `exec` of the decoded command, and then
the next tick's inputs stand at the ports (log 1). -/
def Obligations.StepRunsTheDecodedCommand : Prop :=
  (∀ (s : State) (i : Instr), Accepts s i → step s = thenAdvance (exec i s)) ∧
  (∀ s s' : State, exec (decode s.inp.cmdOp) s = .next s' →
    thenAdvance (exec (decode s.inp.cmdOp) s) =
      .next { s' with inp := nextInputs s', script := s'.script.tail, draws := s'.draws + 1 }) ∧
  (∀ (s : State) (k : Nat), inputsAt (advanceInputs s) k = inputsAt s (k + 1))

/-- R141: an IDLE tick with no command changes nothing but `RSP_VALID`. -/
def Obligations.IdleWithoutCommandWaits : Prop :=
  ∀ s : State, s.inp.rst = false → s.phase = .idle → s.inp.cmdValid = false →
    step s = .next (advanceInputs { s with rspValid := false })

/-- R175: whatever the phase and the other inputs, a tick with `rst` = 1 is the reset step: IDLE, Cold, `OK`, NAN16, no
response; the outputs after it are those of IDLE; the configuration stays. What the other registers hold is free. -/
def Obligations.ResetStepOverrides : Prop :=
  ∀ s : State, s.inp.rst = true → ∃ s' : State, step s = .next s' ∧
    s'.phase = .idle ∧ s'.warm = false ∧ s'.rspStatus = .ok ∧ s'.rspValue = 0x8000#16 ∧ s'.rspValid = false ∧
    s'.cfg = s.cfg ∧ lineOe s' = false ∧ irqInhibit s' = false ∧ cmdReady s' = true

/-- R32: while `cmd_ready` = 0 the command port is ignored. -/
def Obligations.BusyIgnoresTheCommandPort : Prop :=
  ∀ (s : State) (v : Bool) (op : BitVec 2), s.phase ≠ .idle →
    step { s with inp := { s.inp with cmdValid := v, cmdOp := op } } = step s

/-- R34: "line_in is read only in the SAMPLE phase." -/
def Obligations.LineIsReadOnlyInSample : Prop :=
  ∀ (s : State) (level : Bool), s.phase ≠ .sample →
    step { s with inp := { s.inp with lineIn := level } } = step s

/-- R36: `now_ms` is sampled only at the tick a read command is accepted in IDLE. -/
def Obligations.TimeIsReadOnlyAtAcceptance : Prop :=
  ∀ (s : State) (t : Nat), (∀ sel, ¬ Accepts s (readOf sel)) →
    step { s with inp := { s.inp with nowMs := t } } = step s

/-- R37: the outputs in each of the six phases. -/
def Obligations.OutputsFollowThePhase : Prop :=
  ∀ s : State,
    (cmdReady s, busy s, lineOe s, lineOut s, irqInhibit s) =
      (match s.phase with
        | .idle     => (true, false, false, true, false)
        | .settle   => (false, true, true, true, false)
        | .resetlow => (false, true, true, false, false)
        | .release  => (false, true, true, true, true)
        | .sample   => (false, true, false, true, true)
        | .eval     => (false, true, false, true, false))

/-- R33: the response ports show the response registers, the status by its code of R63. -/
def Obligations.ResponsePortsShowTheRegisters : Prop :=
  ∀ s : State, (outputs s).rspValid = s.rspValid ∧ (outputs s).rspValue = s.rspValue ∧
    (outputs s).rspStatus =
      (match s.rspStatus with
        | .ok => 0#3 | .timeout => 1#3 | .shortFrame => 2#3 | .checksum => 3#3 | .longFrame => 4#3 | .badCmd => 5#3) ∧
    ((outputs s).busy = true ↔ s.phase ≠ .idle)

/-! ### The driven phases -/

/-- R81, R82: the SETTLE and RESETLOW ticks, with `TMR` in the range of R39. -/
def Obligations.DrivenTicksCount : Prop :=
  ∀ s : State, s.inp.rst = false → s.tmr < s.cfg.timerLimit →
    (s.phase = .settle → step s = .next (advanceInputs
      (if s.tmr = s.cfg.settleTicks - 1 then { s with phase := .resetlow, tmr := 0, rspValid := false }
        else { s with tmr := s.tmr + 1, rspValid := false }))) ∧
    (s.phase = .resetlow → step s = .next (advanceInputs
      (if s.tmr = s.cfg.resetTicks - 1 then { s with phase := .release, tmr := 0, rspValid := false }
        else { s with tmr := s.tmr + 1, rspValid := false })))

/-- R83, R84: the RELEASE tick; its last one releases the line and clears the sampler and the buffer. -/
def Obligations.ReleaseEntersSample : Prop :=
  ∀ s : State, s.inp.rst = false → s.tmr < s.cfg.timerLimit → s.phase = .release →
    step s = .next (advanceInputs
      (if s.tmr = s.cfg.releaseTicks - 1 then
        { s with phase := .sample, cur := true, dur := 0, tidx := 0, nbits := 0, timedOut := false,
                 buf := { byte0 := 0, byte1 := 0, byte2 := 0, byte3 := 0, byte4 := 0 }, rspValid := false }
        else { s with tmr := s.tmr + 1, rspValid := false }))

/-- R86: the timeline of the driven part of a run for a read accepted at this tick that misses. Tick k from the
acceptance is SETTLE, RESETLOW or RELEASE as the table says, and at tick S + R + L + 1 the pass begins with its registers
cleared, the selector and time of the command held, and LastReading and the response as they were. -/
def Obligations.DrivenPartTimeline : Prop :=
  ∀ (s : State) (sel : Bool), Accepts s (readOf sel) → Misses s → NoReset s (passStart s.cfg.toParams) →
    let S := s.cfg.settleTicks
    let R := s.cfg.resetTicks
    let L := s.cfg.releaseTicks
    (∀ k, 1 ≤ k → k ≤ S + R + L → ∃ s', runTicks k s = .next s' ∧ s'.rspValid = false ∧
      s'.phase = (if k ≤ S then .settle else if k ≤ S + R then .resetlow else .release)) ∧
    (∃ s', runTicks (S + R + L + 1) s = .next s' ∧ s'.phase = .sample ∧ s'.cur = true ∧ s'.dur = 0 ∧ s'.tidx = 0 ∧
      s'.nbits = 0 ∧ s'.timedOut = false ∧ s'.buf = Frame.zero ∧ s'.sel = sel ∧ s'.tsNew = sampledTime s ∧
      s'.lr = s.lr ∧ s'.lrTs = s.lrTs ∧ s'.warm = s.warm ∧ s'.rspStatus = s.rspStatus ∧ s'.rspValue = s.rspValue ∧
      s'.cfg = s.cfg ∧ ∀ k, inputsAt s' k = inputsAt s (S + R + L + 1 + k))

/-! ### The sampler and the bit decoder -/

/-- R91: the SAMPLE tick in its four cases, with the registers in range (93 U10, log 6). -/
def Obligations.SampleTickPollsOnce : Prop :=
  ∀ s : State, s.inp.rst = false → s.phase = .sample →
    s.dur ≤ s.cfg.timeoutCount → s.tidx ≤ s.cfg.maxTransitions → s.nbits ≤ 41 →
    (s.inp.lineIn = s.cur → step s = .next (advanceInputs
      (if s.dur + 1 = s.cfg.timeoutCount then
        { s with dur := s.cfg.timeoutCount, timedOut := true, phase := .eval, rspValid := false }
        else { s with dur := s.dur + 1, rspValid := false }))) ∧
    (s.inp.lineIn ≠ s.cur →
      let d := decodeTransition s.tidx s.dur s
      step s = .next (advanceInputs
        (if s.tidx + 1 = s.cfg.maxTransitions then
          { d with cur := s.inp.lineIn, dur := 0, tidx := s.tidx + 1, timedOut := false, phase := .eval,
                   rspValid := false }
          else { d with cur := s.inp.lineIn, dur := 0, tidx := s.tidx + 1, rspValid := false })))

/-- R107, R108: a transition is decoded exactly when its index is at least 4 and even; its bit is 1 exactly when its
duration exceeds the threshold; any other transition changes nothing. -/
def Obligations.TransitionIsClassified : Prop :=
  ∀ (s : State) (i d : Nat),
    (4 ≤ i → i % 2 = 0 → s.cfg.threshold < d → decodeTransition i d s = shiftIn true s) ∧
    (4 ≤ i → i % 2 = 0 → d ≤ s.cfg.threshold → decodeTransition i d s = shiftIn false s) ∧
    (i < 4 → decodeTransition i d s = s) ∧ (i % 2 = 1 → decodeTransition i d s = s)

/-- The pseudocode of R42, in numbers: while `NBITS` < 40 byte `NBITS div 8` becomes (2 · byte + b) mod 256 and the other
bytes stay; a later bit is counted and not stored; `NBITS` saturates at 41; no other register changes. -/
def Obligations.ShiftInStoresOneBit : Prop :=
  ∀ (s : State) (b : Bool),
    shiftIn b s = { s with buf := (shiftIn b s).buf, nbits := min (s.nbits + 1) 41 } ∧
    (s.nbits < 40 → ∀ k : Fin 5, (frameGet (shiftIn b s).buf k).toNat =
      if k.val = s.nbits / 8 then (2 * (frameGet s.buf k).toNat + b.toNat) % 256 else (frameGet s.buf k).toNat) ∧
    (40 ≤ s.nbits → (shiftIn b s).buf = s.buf)

/-- R98: decoding each transition as it completes leaves in `BUF` and `NBITS` what decoding the whole train after the
pass would (R106), and changes no other register. -/
def Obligations.StreamedDecoderIsDecode : Prop :=
  ∀ (s : State) (train : List Nat), s.buf = Frame.zero → s.nbits = 0 →
    streamTrain 0 train s =
      { s with buf := (decodeTrain s.cfg.threshold train).1, nbits := (decodeTrain s.cfg.threshold train).2 }

/-- R68: how many data bits a train of m transitions gives. -/
def Obligations.TrainLengthGivesBitCount : Prop :=
  ∀ (th : Nat) (train : List Nat),
    (train.length ≤ 4 → (decodeTrain th train).2 = 0) ∧
    (5 ≤ train.length → train.length ≤ 82 → (decodeTrain th train).2 = (train.length - 3) / 2 ∧
      1 ≤ (decodeTrain th train).2 ∧ (decodeTrain th train).2 ≤ 39) ∧
    (train.length = 83 ∨ train.length = 84 → (decodeTrain th train).2 = 40) ∧
    (85 ≤ train.length → (decodeTrain th train).2 = 41) ∧
    (decodeTrain th train).2 = dataCount train.length

/-- R41: after a pass that decoded 40 or more bits, bit k of the frame, most significant bit and byte0 first, is the
classification of transition 4 + 2k (R66, R67). -/
def Obligations.FrameBitsAreInOrder : Prop :=
  ∀ (th : Nat) (train : List Nat), 40 ≤ (decodeTrain th train).2 →
    ∀ k : Fin 40, ∃ d, train[4 + 2 * k.val]? = some d ∧
      frameBit (decodeTrain th train).1 k = decide (th < d)

/-- R71: decoding the train of a frame gives the frame back with 40 bits, for every legal choice of durations; dropping
the last entry changes nothing. -/
def Obligations.DecodeOfEncodeIsTheFrame : Prop :=
  ∀ (p : Params) (w : PulseWidths) (f : Frame), w.wf p = true →
    decodeTrain p.threshold (encodeTrain w f) = (f, 40) ∧
      decodeTrain p.threshold (encodeTrain w f).dropLast = (f, 40)

/-! ### The pass -/

/-- R97: every pass ends, whatever the line does, within its bounds; its train keeps to the cap and its durations below
the timeout; its length in ticks is the sum R97 gives. -/
def Obligations.EveryPassEnds : Prop :=
  ∀ (c : Config) (wave : Nat → Bool), ∃ r, pass c.toParams wave = some r ∧
    min c.timeoutCount c.maxTransitions ≤ r.ticks ∧ r.ticks ≤ c.maxTransitions * c.timeoutCount ∧
    (∀ d ∈ r.train, d < c.timeoutCount) ∧
    (r.ended = .timeout → r.train.length < c.maxTransitions ∧ r.ticks = trainTicks r.train + c.timeoutCount) ∧
    (r.ended = .cap → r.train.length = c.maxTransitions ∧ r.ticks = trainTicks r.train)

/-- R93, R95, R96: a pass over the wave of a train measures exactly that train. It ends by timeout if the train is
shorter than the cap and by the cap if it has the cap's length. -/
def Obligations.PassMeasuresTheTrain : Prop :=
  ∀ (c : Config) (train : List Nat), (∀ d ∈ train, d < c.timeoutCount) →
    (train.length < c.maxTransitions → pass c.toParams (waveOfTrain train) =
      some { train := train, ended := .timeout, ticks := trainTicks train + c.timeoutCount }) ∧
    (train.length = c.maxTransitions → pass c.toParams (waveOfTrain train) =
      some { train := train, ended := .cap, ticks := trainTicks train })

/-- R100: the corner cases of a pass, and what the run reports for the default cap and timeout. -/
def Obligations.PassCornerCases : Prop :=
  ∀ c : Config,
    pass c.toParams (fun _ => true) = some { train := [], ended := .timeout, ticks := c.timeoutCount } ∧
    (2 ≤ c.maxTransitions → pass c.toParams (fun _ => false) =
      some { train := [0], ended := .timeout, ticks := c.timeoutCount + 1 }) ∧
    pass c.toParams (fun n => n % 2 == 1) =
      some { train := List.replicate c.maxTransitions 0, ended := .cap, ticks := c.maxTransitions } ∧
    (∀ th, trainVerdict th { train := [], ended := .timeout, ticks := 255 } = some .timeout ∧
      trainVerdict th { train := [0], ended := .timeout, ticks := 256 } = some .timeout ∧
      trainVerdict th { train := List.replicate 85 0, ended := .cap, ticks := 85 } = some .longFrame)

/-- R99: the machine's SAMPLE phase is `Pass`. From a state that has just entered SAMPLE, after as many ticks as `Pass`
takes on the line the sampler sees, the phase is EVAL and `TO`, `TIDX`, `BUF`, `NBITS` are what R99 says; the registers a
pass does not own are as before. -/
def Obligations.SamplePhaseIsPass : Prop :=
  ∀ (s : State) (r : PassResult), s.phase = .sample → s.cur = true → s.dur = 0 → s.tidx = 0 → s.nbits = 0 →
    s.timedOut = false → s.buf = Frame.zero → pass s.cfg.toParams (waveFrom s 0) = some r → NoReset s r.ticks →
    (∀ k, 1 ≤ k → k < r.ticks → ∃ s', runTicks k s = .next s' ∧ s'.phase = .sample) ∧
    ∃ s', runTicks r.ticks s = .next s' ∧ s'.phase = .eval ∧ s'.timedOut = (r.ended == .timeout) ∧
      s'.tidx = r.train.length ∧ (s'.buf, s'.nbits) = decodeTrain s.cfg.threshold r.train ∧ s'.rspValid = false ∧
      s'.cfg = s.cfg ∧ s'.sel = s.sel ∧ s'.tsNew = s.tsNew ∧ s'.tmr = s.tmr ∧ s'.lr = s.lr ∧ s'.lrTs = s.lrTs ∧
      s'.warm = s.warm ∧ s'.rspStatus = s.rspStatus ∧ s'.rspValue = s.rspValue

/-! ### The frame assembler -/

/-- R112, R113, R45: an EVAL tick with 40 bits and a right checksum commits all seven registers at once and answers `OK`
with the value of that frame. -/
def Obligations.EvalSuccessCommits : Prop :=
  ∀ s : State, s.inp.rst = false → s.phase = .eval → s.nbits = 40 →
    s.buf.byte4.toNat = (s.buf.byte0.toNat + s.buf.byte1.toNat + s.buf.byte2.toNat + s.buf.byte3.toNat) % 256 →
    step s = .next (advanceInputs
      { s with lr := s.buf, lrTs := s.tsNew, warm := true, rspStatus := .ok, rspValue := value s.cfg.model s.sel s.buf,
               rspValid := true, phase := .idle })

/-- R114, R151 to R154, R158, R159: an EVAL tick that fails answers the code of the first check that fails, bit count
before checksum, with NAN16, and returns to IDLE; LastReading, its time and the Warm flag keep their values. -/
def Obligations.EvalFailureReportsOneKind : Prop :=
  ∀ s : State, s.inp.rst = false → s.phase = .eval →
    let failed := fun st : Status => Host.Outcome.next (φ := Fault) (ρ := Refusal) (advanceInputs
      { s with rspStatus := st, rspValue := 0x8000#16, rspValid := true, phase := .idle })
    (s.nbits < 40 → s.timedOut = true → step s = failed .timeout) ∧
    (s.nbits < 40 → s.timedOut = false → step s = failed .shortFrame) ∧
    (s.nbits = 41 → step s = failed .longFrame) ∧
    (s.nbits = 40 →
      s.buf.byte4.toNat ≠ (s.buf.byte0.toNat + s.buf.byte1.toNat + s.buf.byte2.toNat + s.buf.byte3.toNat) % 256 →
      step s = failed .checksum)

/-- R115, R117: the SIMPLE values are bytes 0 and 2 as they are. -/
def Obligations.SimpleValuesAreBytes : Prop :=
  ∀ f : Frame, (value .simple false f).toNat = f.byte0.toNat ∧ (value .simple true f).toNat = f.byte2.toNat

/-- R116, R69: the SCALED humidity is ((byte0 & 0x7F) · 256 + byte1), the SCALED temperature the signed
((byte2 & 0x7F) · 256 + byte3), negated if bit 7 of byte2 is set; a negative zero is 0. -/
def Obligations.ScaledValuesAreTenths : Prop :=
  ∀ f : Frame,
    (value .scaled false f).toNat = f.byte0.toNat % 128 * 256 + f.byte1.toNat ∧
    (value .scaled true f).toInt =
      (if 128 ≤ f.byte2.toNat then -((f.byte2.toNat % 128 * 256 + f.byte3.toNat : Nat) : Int)
        else ((f.byte2.toNat % 128 * 256 + f.byte3.toNat : Nat) : Int)) ∧
    (f.byte2 = 0x80#8 → f.byte3 = 0 → value .scaled true f = 0)

/-- R64: NAN16 is the pattern 0x8000, the ranges of the successful values, and no value is NAN16. -/
def Obligations.NoValueIsNan16 : Prop :=
  nan16 = 0x8000#16 ∧
  (∀ (sel : Bool) (f : Frame), (value .simple sel f).toNat ≤ 255) ∧
  (∀ f : Frame, (value .scaled false f).toNat ≤ 0x7FFF) ∧
  (∀ f : Frame, -32767 ≤ (value .scaled true f).toInt ∧ (value .scaled true f).toInt ≤ 32767) ∧
  (∀ (m : SensorModel) (sel : Bool) (f : Frame), value m sel f ≠ 0x8000#16)

/-- A train shorter than 83 entries fails with `TIMEOUT` or `SHORT_FRAME` as the pass ended, and one longer than 84 with
`LONG_FRAME`, whatever its durations (95_test_vectors.md S-P3; R110, R111). -/
def Obligations.WrongLengthTrainsFail : Prop :=
  ∀ (th : Nat) (r : PassResult),
    (r.train.length ≤ 82 → trainVerdict th r = some (if r.ended = .timeout then .timeout else .shortFrame)) ∧
    (85 ≤ r.train.length → trainVerdict th r = some .longFrame) ∧
    (r.train.length = 83 ∨ r.train.length = 84 →
      trainVerdict th r = if checksumOk (decodeTrain th r.train).1 then none else some .checksum)

/-! ### Rules about the whole machine -/

/-- The invariant of the block (Safety.lean) holds at reset. The registers R38 leaves unspecified are 0 there by the
model's choice (log 3); the invariant asks nothing of them in IDLE but that they fit their widths. -/
def Obligations.InvariantHoldsAtReset : Prop := BlockInv State.reset

/-- The invariant of the block is kept by every step: register widths and ranges (R39), `CUR` against `TIDX` (R19),
`NBITS` against `TIDX`, the Warm frame's checksum (R12), the response (R26), the partial frame (R44). -/
def Obligations.StepKeepsTheInvariant : Prop :=
  ∀ s s' : State, BlockInv s → step s = .next s' → BlockInv s'

/-- R168: the block never faults and is never stuck: from every state of the invariant the step answers a next state. -/
def Obligations.InvariantStatesStep : Prop :=
  ∀ s : State, BlockInv s → ∃ s', step s = .next s'

/-- The step stops only in a state whose register is out of the range of R39 (93 U10, log 6), and refuses nothing. -/
def Obligations.StepStopsOnlyOutOfRange : Prop :=
  (∀ (s : State) (r : Refusal), step s ≠ .refused r) ∧
  (∀ (s : State) (f : Fault), step s = .fault f → s.inp.rst = false ∧
    ((f = .tmrOutOfRange ∧ Driven s.phase ∧ s.cfg.timerLimit ≤ s.tmr) ∨
      (f = .durOutOfRange ∧ s.phase = .sample ∧ s.cfg.timeoutCount < s.dur) ∨
      (f = .tidxOutOfRange ∧ s.phase = .sample ∧ s.cfg.maxTransitions < s.tidx) ∨
      (f = .nbitsOutOfRange ∧ (s.phase = .sample ∨ s.phase = .eval) ∧ 41 < s.nbits)))

/-- R24, R6: no command, port or rule writes the configuration. -/
def Obligations.ConfigurationIsConstant : Prop :=
  ∀ s s' : State, step s = .next s' → s'.cfg = s.cfg

/-- R12, R18, R113: outside a reset step, LastReading changes only by the `Commit` of a successful EVAL, which copies the
whole buffer and its time; `WARM` becomes 1 only there and 0 only by `INIT`. -/
def Obligations.OnlyCommitWritesLastReading : Prop :=
  ∀ s s' : State, s.inp.rst = false → step s = .next s' →
    let committed := s.phase = .eval ∧ s.nbits = 40 ∧ checksumOk s.buf = true ∧
      s'.lr = s.buf ∧ s'.lrTs = s.tsNew ∧ s'.warm = true
    (committed ∨ (s'.lr = s.lr ∧ s'.lrTs = s.lrTs)) ∧
    (committed ∨ s'.warm = s.warm ∨ (Accepts s .init ∧ s'.warm = false))

/-- R27: `RSP_VALID`, and the port `rsp_valid` with it, is 1 after a step exactly when the step completes a command. -/
def Obligations.ResponseValidMarksCompletion : Prop :=
  ∀ s s' : State, step s = .next s' →
    (s'.rspValid = true ↔ Completes s) ∧ ((outputs s').rspValid = true ↔ Completes s)

/-- R25, R183: the response holds until the next completion or a reset. -/
def Obligations.ResponseHolds : Prop :=
  ∀ s s' : State, step s = .next s' → s.inp.rst = false → ¬ Completes s →
    s'.rspStatus = s.rspStatus ∧ s'.rspValue = s.rspValue

/-- R13: outside a reset step, `PHASE` stays or advances in the order of the table and returns from EVAL to IDLE; it
leaves IDLE only for a read that misses, and EVAL always after one tick. -/
def Obligations.PhaseAdvancesInOrder : Prop :=
  ∀ s s' : State, s.inp.rst = false → step s = .next s' →
    match s.phase with
    | .idle     => (s'.phase = .settle ∧ (∃ sel, Accepts s (readOf sel)) ∧ Misses s) ∨
        (s'.phase = .idle ∧ ¬ ((∃ sel, Accepts s (readOf sel)) ∧ Misses s))
    | .settle   => s'.phase = .settle ∨ (s'.phase = .resetlow ∧ s.tmr = s.cfg.settleTicks - 1)
    | .resetlow => s'.phase = .resetlow ∨ (s'.phase = .release ∧ s.tmr = s.cfg.resetTicks - 1)
    | .release  => s'.phase = .release ∨ (s'.phase = .sample ∧ s.tmr = s.cfg.releaseTicks - 1)
    | .sample   => s'.phase = .sample ∨ (s'.phase = .eval ∧
        (s'.timedOut = true ∧ s'.dur = s.cfg.timeoutCount ∨ s'.timedOut = false ∧ s'.tidx = s.cfg.maxTransitions))
    | .eval     => s'.phase = .idle

/-- R38, 93 U6, U7: no rule reads an unspecified register before a rule writes it. Two states that agree on what the
block can read run alike for ever: after any number of steps both stand in states with the same outputs, that again
agree. -/
def Obligations.UnspecifiedRegistersAreNeverRead : Prop :=
  ∀ (s t s' : State) (k : Nat), SameToTheBlock s t → runTicks k s = .next s' →
    ∃ t', runTicks k t = .next t' ∧ SameToTheBlock s' t' ∧ outputs s' = outputs t'

/-- R28: the bits of a frame that failed are never observable. Two states in EVAL with the same failing verdict, alike
but for the buffer, go to states that agree on all the block can read and show. -/
def Obligations.RejectedBitsAreUnobservable : Prop :=
  ∀ (s s' : State) (b : Frame) (k : FailKind), s.inp.rst = false → s.phase = .eval →
    verdict s.nbits s.timedOut s.buf = some k → verdict s.nbits s.timedOut b = some k → step s = .next s' →
    ∃ t', step { s with buf := b } = .next t' ∧ SameToTheBlock s' t' ∧ outputs s' = outputs t'

/-- Idempotence (95_test_vectors.md S-P4; R47, R128): two reads of one kind accepted at consecutive ticks, both hits,
give the same value with `OK`, leave LastReading alone, and never drive the line. -/
def Obligations.ConsecutiveHitsAgree : Prop :=
  ∀ (s s1 s2 : State) (sel : Bool), Accepts s (readOf sel) → hit s (sampledTime s) = true → step s = .next s1 →
    Accepts s1 (readOf sel) → hit s1 (sampledTime s1) = true → step s1 = .next s2 →
    s2.rspValue = s1.rspValue ∧ s1.rspStatus = .ok ∧ s2.rspStatus = .ok ∧ s2.lr = s.lr ∧ s2.lrTs = s.lrTs ∧
      lineOe s = false ∧ lineOe s1 = false ∧ lineOe s2 = false

/-- R132, R126: once the throttle check has failed while Cold, or at a time from `LR_TS` on, it fails at every later time
for as long as `LR_TS`, `WARM` and the configuration stay. (After a rollover miss, t below `LR_TS`, a later time may hit.) -/
def Obligations.HitStaysFalseAsTimeMovesOn : Prop :=
  ∀ (s u : State) (t t' : Nat), (s.warm = false ∨ s.lrTs ≤ t) → hit s t = false → t ≤ t' → u.lrTs = s.lrTs →
    u.warm = s.warm → u.cfg = s.cfg → hit u t' = false

/-- R157, R6: elaboration refuses an unrecognised model tag and every parameter outside its constraint, and builds the
instance asked for otherwise. -/
def Obligations.ElaborationRefusesBadConfigurations : Prop :=
  ∀ r : Request,
    (2 ≤ r.modelTag → elaborateConfig r = .error .unrecognisedModel) ∧
    (∀ m, modelOfTag r.modelTag = some m →
      let legal := r.threshold + 2 ≤ r.timeoutCount ∧ 1 ≤ r.settleTicks ∧ 1 ≤ r.resetTicks ∧
        (1 ≤ r.releaseTicks ∧ (r.tTickNs = 1000 → 10 ≤ r.releaseTicks ∧ r.releaseTicks ≤ 99)) ∧
        (1 ≤ r.maxTransitions ∧ r.maxTransitions ≤ 127) ∧ (2 ≤ r.timeoutCount ∧ r.timeoutCount ≤ 255) ∧
        r.minIntervalMs < 2 ^ r.tsWidth ∧ 1 ≤ r.tsWidth
      (legal → ∃ c : Config, elaborateConfig r = .ok c ∧ c.toParams = r.params m) ∧
      (¬ legal → elaborateConfig r = .error .badParameter)) ∧
    modelOfTag 0 = some .simple ∧ modelOfTag 1 = some .scaled

/-! ### Whole runs -/

/-- R137, R138, R142: a read accepted at this tick that misses, whose pass on the line as it will be is r, completes
S + R + L + P + 1 ticks later: the tick after, and no earlier one, shows the response. The verdict of the pass's train
decides: on success the response is `OK` with the selected value of the decoded frame, and LastReading is that frame with
the time of the acceptance; on a failure it is the failure's code with NAN16, and LastReading is as it was. -/
def Obligations.ReadRunCompletes : Prop :=
  ∀ (s : State) (sel : Bool) (r : PassResult), Accepts s (readOf sel) → Misses s →
    pass s.cfg.toParams (waveFrom s (passStart s.cfg.toParams)) = some r →
    NoReset s (passStart s.cfg.toParams + r.ticks + 1) →
    (∀ k, 1 ≤ k → k ≤ passStart s.cfg.toParams + r.ticks → ∃ s', runTicks k s = .next s' ∧ busy s' = true ∧
      s'.rspValid = false) ∧
    ∃ s', runTicks (passStart s.cfg.toParams + r.ticks + 1) s = .next s' ∧ cmdReady s' = true ∧ s'.rspValid = true ∧
      s'.cfg = s.cfg ∧
      (match trainVerdict s.cfg.threshold r with
        | none => s'.rspStatus = .ok ∧
            s'.rspValue = value s.cfg.model sel (decodeTrain s.cfg.threshold r.train).1 ∧
            s'.lr = (decodeTrain s.cfg.threshold r.train).1 ∧ s'.lrTs = sampledTime s ∧ s'.warm = true
        | some k => s'.rspStatus = k.status ∧ s'.rspValue = 0x8000#16 ∧ s'.lr = s.lr ∧ s'.lrTs = s.lrTs ∧
            s'.warm = s.warm)

/-- Round trip through the machine (95_test_vectors.md S-P1, S-P2): a read that misses, on a line that shows the train of
a frame, answers the frame's value and stores the frame if its checksum is right, and fails with `CHECKSUM`, leaving
LastReading alone, if not. -/
def Obligations.EncodedFrameIsRead : Prop :=
  ∀ (s : State) (sel : Bool) (w : PulseWidths) (f : Frame), Accepts s (readOf sel) → Misses s →
    w.wf s.cfg.toParams = true → 84 < s.cfg.maxTransitions →
    let P := trainTicks (encodeTrain w f) + s.cfg.timeoutCount
    (∀ n < P, waveFrom s (passStart s.cfg.toParams) n = waveOfTrain (encodeTrain w f) n) →
    NoReset s (passStart s.cfg.toParams + P + 1) →
    ∃ s', runTicks (passStart s.cfg.toParams + P + 1) s = .next s' ∧ s'.rspValid = true ∧ cmdReady s' = true ∧
      (if f.byte4.toNat = (f.byte0.toNat + f.byte1.toNat + f.byte2.toNat + f.byte3.toNat) % 256 then
        s'.rspStatus = .ok ∧ s'.rspValue = value s.cfg.model sel f ∧ s'.lr = f ∧ s'.lrTs = sampledTime s ∧
          s'.warm = true
      else s'.rspStatus = .checksum ∧ s'.rspValue = 0x8000#16 ∧ s'.lr = s.lr ∧ s'.lrTs = s.lrTs ∧
          s'.warm = s.warm)

/-- R168: no hang. From every state of the invariant, whatever the inputs, if no reset comes, the block is ready for a
command within S + R + L + MAX_TRANSITIONS · TIMEOUT_COUNT + 1 ticks. -/
def Obligations.BlockBecomesReady : Prop :=
  ∀ s : State, BlockInv s →
    let N := s.cfg.settleTicks + s.cfg.resetTicks + s.cfg.releaseTicks + s.cfg.maxTransitions * s.cfg.timeoutCount + 1
    NoReset s N → ∃ k s', k ≤ N ∧ runTicks k s = .next s' ∧ cmdReady s' = true

/-- R132, R114: a run that fails is followed by no hit while time moves forward. The read that started it was Cold, or
accepted at a time from `LR_TS` on (not a rollover, R130); in the state the failed run leaves, the throttle check fails at
every time from the acceptance's on. -/
def Obligations.NoHitAfterFailedRun : Prop :=
  ∀ (s : State) (sel : Bool) (r : PassResult) (k : FailKind), Accepts s (readOf sel) → Misses s →
    (s.warm = false ∨ s.lrTs ≤ sampledTime s) →
    pass s.cfg.toParams (waveFrom s (passStart s.cfg.toParams)) = some r →
    trainVerdict s.cfg.threshold r = some k → NoReset s (passStart s.cfg.toParams + r.ticks + 1) →
    ∃ s', runTicks (passStart s.cfg.toParams + r.ticks + 1) s = .next s' ∧ s'.rspValid = true ∧
      s'.rspStatus = k.status ∧ ∀ t', sampledTime s ≤ t' → hit s' t' = false
end

