-- ==== Sys2Proof/Laws/Config.lean ====
section
/-! SUPPORT. The constraints of 00_scope.md R6 that every configuration meets, as propositions. -/

namespace Sys2Proof

/-- All constraints at once. -/
theorem Params.wf_iff (p : Params) : p.wf = true ↔
    p.threshold + 2 ≤ p.timeoutCount ∧ 1 ≤ p.settleTicks ∧ 1 ≤ p.resetTicks ∧
      (1 ≤ p.releaseTicks ∧ (p.tTickNs = 1000 → 10 ≤ p.releaseTicks ∧ p.releaseTicks ≤ 99)) ∧
      (1 ≤ p.maxTransitions ∧ p.maxTransitions ≤ 127) ∧ (2 ≤ p.timeoutCount ∧ p.timeoutCount ≤ 255) ∧
      p.minIntervalMs < 2 ^ p.tsWidth ∧ 1 ≤ p.tsWidth := by
  simp only [Params.wf, Params.thresholdOk, Params.settleOk, Params.resetOk, Params.releaseOk, Params.maxTransitionsOk,
    Params.timeoutOk, Params.intervalOk, Params.tsWidthOk, Bool.and_eq_true, Bool.or_eq_true, decide_eq_true_eq,
    bne_iff_ne, ne_eq, and_assoc]
  rw [Classical.or_iff_not_imp_left, not_not]

namespace Config

variable (c : Config)

theorem threshold_lt : c.threshold + 2 ≤ c.timeoutCount := ((Params.wf_iff _).1 c.legal).1

theorem settle_pos : 1 ≤ c.settleTicks := ((Params.wf_iff _).1 c.legal).2.1

theorem reset_pos : 1 ≤ c.resetTicks := ((Params.wf_iff _).1 c.legal).2.2.1

theorem release_pos : 1 ≤ c.releaseTicks := ((Params.wf_iff _).1 c.legal).2.2.2.1.1

theorem maxTransitions_pos : 1 ≤ c.maxTransitions := ((Params.wf_iff _).1 c.legal).2.2.2.2.1.1

theorem maxTransitions_le : c.maxTransitions ≤ 127 := ((Params.wf_iff _).1 c.legal).2.2.2.2.1.2

theorem timeout_ge : 2 ≤ c.timeoutCount := ((Params.wf_iff _).1 c.legal).2.2.2.2.2.1.1

theorem timeout_le : c.timeoutCount ≤ 255 := ((Params.wf_iff _).1 c.legal).2.2.2.2.2.1.2

theorem interval_lt : c.minIntervalMs < 2 ^ c.tsWidth := ((Params.wf_iff _).1 c.legal).2.2.2.2.2.2.1

/-- `TMR` counts up to but not including the limit, which its width holds (R16). -/
theorem lt_timerWidth {n : Nat} (h : n < c.timerLimit) : n < 2 ^ c.timerWidth := by
  have hle : n ≤ c.timerLimit - 1 := by omega
  have hlt : c.timerLimit - 1 < 2 ^ (Nat.log2 (c.timerLimit - 1) + 1) := Nat.lt_log2_self
  exact lt_of_le_of_lt hle hlt

theorem settle_le_limit : c.settleTicks ≤ c.timerLimit := le_max_left _ _

theorem reset_le_limit : c.resetTicks ≤ c.timerLimit := (le_max_left _ _).trans (le_max_right _ _)

theorem release_le_limit : c.releaseTicks ≤ c.timerLimit := (le_max_right _ _).trans (le_max_right _ _)

end Config

end Sys2Proof
end

