-- ==== Sys2Proof/Laws/State.lean ====
section
/-! SUPPORT. One lemma per field per update: what each operation leaves in each register. All hold by unfolding once, so
later proofs do not unfold a record update. -/

namespace Sys2Proof.Machine

variable (s : State)

/-! #### `complete` -/

@[simp] theorem complete_cfg (st : Status) (v : Half) : (complete st v s).cfg = s.cfg := rfl
@[simp] theorem complete_phase (st : Status) (v : Half) : (complete st v s).phase = s.phase := rfl
@[simp] theorem complete_tmr (st : Status) (v : Half) : (complete st v s).tmr = s.tmr := rfl
@[simp] theorem complete_tidx (st : Status) (v : Half) : (complete st v s).tidx = s.tidx := rfl
@[simp] theorem complete_nbits (st : Status) (v : Half) : (complete st v s).nbits = s.nbits := rfl
@[simp] theorem complete_dur (st : Status) (v : Half) : (complete st v s).dur = s.dur := rfl
@[simp] theorem complete_cur (st : Status) (v : Half) : (complete st v s).cur = s.cur := rfl
@[simp] theorem complete_timedOut (st : Status) (v : Half) : (complete st v s).timedOut = s.timedOut := rfl
@[simp] theorem complete_sel (st : Status) (v : Half) : (complete st v s).sel = s.sel := rfl
@[simp] theorem complete_warm (st : Status) (v : Half) : (complete st v s).warm = s.warm := rfl
@[simp] theorem complete_buf (st : Status) (v : Half) : (complete st v s).buf = s.buf := rfl
@[simp] theorem complete_lr (st : Status) (v : Half) : (complete st v s).lr = s.lr := rfl
@[simp] theorem complete_lrTs (st : Status) (v : Half) : (complete st v s).lrTs = s.lrTs := rfl
@[simp] theorem complete_tsNew (st : Status) (v : Half) : (complete st v s).tsNew = s.tsNew := rfl
@[simp] theorem complete_rspStatus (st : Status) (v : Half) : (complete st v s).rspStatus = st := rfl
@[simp] theorem complete_rspValue (st : Status) (v : Half) : (complete st v s).rspValue = v := rfl
@[simp] theorem complete_rspValid (st : Status) (v : Half) : (complete st v s).rspValid = true := rfl
@[simp] theorem complete_inp (st : Status) (v : Half) : (complete st v s).inp = s.inp := rfl
@[simp] theorem complete_script (st : Status) (v : Half) : (complete st v s).script = s.script := rfl
@[simp] theorem complete_draws (st : Status) (v : Half) : (complete st v s).draws = s.draws := rfl

/-! #### `commit` -/

@[simp] theorem commit_cfg : (commit s).cfg = s.cfg := rfl
@[simp] theorem commit_phase : (commit s).phase = s.phase := rfl
@[simp] theorem commit_tmr : (commit s).tmr = s.tmr := rfl
@[simp] theorem commit_tidx : (commit s).tidx = s.tidx := rfl
@[simp] theorem commit_nbits : (commit s).nbits = s.nbits := rfl
@[simp] theorem commit_dur : (commit s).dur = s.dur := rfl
@[simp] theorem commit_cur : (commit s).cur = s.cur := rfl
@[simp] theorem commit_timedOut : (commit s).timedOut = s.timedOut := rfl
@[simp] theorem commit_sel : (commit s).sel = s.sel := rfl
@[simp] theorem commit_warm : (commit s).warm = true := rfl
@[simp] theorem commit_buf : (commit s).buf = s.buf := rfl
@[simp] theorem commit_lr : (commit s).lr = s.buf := rfl
@[simp] theorem commit_lrTs : (commit s).lrTs = s.tsNew := rfl
@[simp] theorem commit_tsNew : (commit s).tsNew = s.tsNew := rfl
@[simp] theorem commit_rspStatus : (commit s).rspStatus = s.rspStatus := rfl
@[simp] theorem commit_rspValue : (commit s).rspValue = s.rspValue := rfl
@[simp] theorem commit_rspValid : (commit s).rspValid = s.rspValid := rfl
@[simp] theorem commit_inp : (commit s).inp = s.inp := rfl
@[simp] theorem commit_script : (commit s).script = s.script := rfl
@[simp] theorem commit_draws : (commit s).draws = s.draws := rfl

/-! #### `startRun` -/

@[simp] theorem startRun_cfg (sel : Bool) (t : Nat) : (startRun sel t s).cfg = s.cfg := rfl
@[simp] theorem startRun_phase (sel : Bool) (t : Nat) : (startRun sel t s).phase = .settle := rfl
@[simp] theorem startRun_tmr (sel : Bool) (t : Nat) : (startRun sel t s).tmr = 0 := rfl
@[simp] theorem startRun_tidx (sel : Bool) (t : Nat) : (startRun sel t s).tidx = s.tidx := rfl
@[simp] theorem startRun_nbits (sel : Bool) (t : Nat) : (startRun sel t s).nbits = s.nbits := rfl
@[simp] theorem startRun_dur (sel : Bool) (t : Nat) : (startRun sel t s).dur = s.dur := rfl
@[simp] theorem startRun_cur (sel : Bool) (t : Nat) : (startRun sel t s).cur = s.cur := rfl
@[simp] theorem startRun_timedOut (sel : Bool) (t : Nat) : (startRun sel t s).timedOut = s.timedOut := rfl
@[simp] theorem startRun_sel (sel : Bool) (t : Nat) : (startRun sel t s).sel = sel := rfl
@[simp] theorem startRun_warm (sel : Bool) (t : Nat) : (startRun sel t s).warm = s.warm := rfl
@[simp] theorem startRun_buf (sel : Bool) (t : Nat) : (startRun sel t s).buf = s.buf := rfl
@[simp] theorem startRun_lr (sel : Bool) (t : Nat) : (startRun sel t s).lr = s.lr := rfl
@[simp] theorem startRun_lrTs (sel : Bool) (t : Nat) : (startRun sel t s).lrTs = s.lrTs := rfl
@[simp] theorem startRun_tsNew (sel : Bool) (t : Nat) : (startRun sel t s).tsNew = t := rfl
@[simp] theorem startRun_rspStatus (sel : Bool) (t : Nat) : (startRun sel t s).rspStatus = s.rspStatus := rfl
@[simp] theorem startRun_rspValue (sel : Bool) (t : Nat) : (startRun sel t s).rspValue = s.rspValue := rfl
@[simp] theorem startRun_rspValid (sel : Bool) (t : Nat) : (startRun sel t s).rspValid = false := rfl
@[simp] theorem startRun_inp (sel : Bool) (t : Nat) : (startRun sel t s).inp = s.inp := rfl
@[simp] theorem startRun_script (sel : Bool) (t : Nat) : (startRun sel t s).script = s.script := rfl
@[simp] theorem startRun_draws (sel : Bool) (t : Nat) : (startRun sel t s).draws = s.draws := rfl

/-! #### `initCommand` -/

@[simp] theorem initCommand_cfg : (initCommand s).cfg = s.cfg := rfl
@[simp] theorem initCommand_phase : (initCommand s).phase = s.phase := rfl
@[simp] theorem initCommand_tmr : (initCommand s).tmr = s.tmr := rfl
@[simp] theorem initCommand_tidx : (initCommand s).tidx = s.tidx := rfl
@[simp] theorem initCommand_nbits : (initCommand s).nbits = s.nbits := rfl
@[simp] theorem initCommand_dur : (initCommand s).dur = s.dur := rfl
@[simp] theorem initCommand_cur : (initCommand s).cur = s.cur := rfl
@[simp] theorem initCommand_timedOut : (initCommand s).timedOut = s.timedOut := rfl
@[simp] theorem initCommand_sel : (initCommand s).sel = s.sel := rfl
@[simp] theorem initCommand_warm : (initCommand s).warm = false := rfl
@[simp] theorem initCommand_buf : (initCommand s).buf = s.buf := rfl
@[simp] theorem initCommand_lr : (initCommand s).lr = s.lr := rfl
@[simp] theorem initCommand_lrTs : (initCommand s).lrTs = s.lrTs := rfl
@[simp] theorem initCommand_tsNew : (initCommand s).tsNew = s.tsNew := rfl
@[simp] theorem initCommand_rspStatus : (initCommand s).rspStatus = .ok := rfl
@[simp] theorem initCommand_rspValue : (initCommand s).rspValue = nan16 := rfl
@[simp] theorem initCommand_rspValid : (initCommand s).rspValid = true := rfl
@[simp] theorem initCommand_inp : (initCommand s).inp = s.inp := rfl
@[simp] theorem initCommand_script : (initCommand s).script = s.script := rfl
@[simp] theorem initCommand_draws : (initCommand s).draws = s.draws := rfl

/-! #### `reservedCommand` -/

@[simp] theorem reservedCommand_cfg : (reservedCommand s).cfg = s.cfg := rfl
@[simp] theorem reservedCommand_phase : (reservedCommand s).phase = s.phase := rfl
@[simp] theorem reservedCommand_tmr : (reservedCommand s).tmr = s.tmr := rfl
@[simp] theorem reservedCommand_tidx : (reservedCommand s).tidx = s.tidx := rfl
@[simp] theorem reservedCommand_nbits : (reservedCommand s).nbits = s.nbits := rfl
@[simp] theorem reservedCommand_dur : (reservedCommand s).dur = s.dur := rfl
@[simp] theorem reservedCommand_cur : (reservedCommand s).cur = s.cur := rfl
@[simp] theorem reservedCommand_timedOut : (reservedCommand s).timedOut = s.timedOut := rfl
@[simp] theorem reservedCommand_sel : (reservedCommand s).sel = s.sel := rfl
@[simp] theorem reservedCommand_warm : (reservedCommand s).warm = s.warm := rfl
@[simp] theorem reservedCommand_buf : (reservedCommand s).buf = s.buf := rfl
@[simp] theorem reservedCommand_lr : (reservedCommand s).lr = s.lr := rfl
@[simp] theorem reservedCommand_lrTs : (reservedCommand s).lrTs = s.lrTs := rfl
@[simp] theorem reservedCommand_tsNew : (reservedCommand s).tsNew = s.tsNew := rfl
@[simp] theorem reservedCommand_rspStatus : (reservedCommand s).rspStatus = .badCmd := rfl
@[simp] theorem reservedCommand_rspValue : (reservedCommand s).rspValue = nan16 := rfl
@[simp] theorem reservedCommand_rspValid : (reservedCommand s).rspValid = true := rfl
@[simp] theorem reservedCommand_inp : (reservedCommand s).inp = s.inp := rfl
@[simp] theorem reservedCommand_script : (reservedCommand s).script = s.script := rfl
@[simp] theorem reservedCommand_draws : (reservedCommand s).draws = s.draws := rfl

/-! #### `fail` -/

@[simp] theorem fail_cfg (k : FailKind) : (fail k s).cfg = s.cfg := rfl
@[simp] theorem fail_phase (k : FailKind) : (fail k s).phase = s.phase := rfl
@[simp] theorem fail_tmr (k : FailKind) : (fail k s).tmr = s.tmr := rfl
@[simp] theorem fail_tidx (k : FailKind) : (fail k s).tidx = s.tidx := rfl
@[simp] theorem fail_nbits (k : FailKind) : (fail k s).nbits = s.nbits := rfl
@[simp] theorem fail_dur (k : FailKind) : (fail k s).dur = s.dur := rfl
@[simp] theorem fail_cur (k : FailKind) : (fail k s).cur = s.cur := rfl
@[simp] theorem fail_timedOut (k : FailKind) : (fail k s).timedOut = s.timedOut := rfl
@[simp] theorem fail_sel (k : FailKind) : (fail k s).sel = s.sel := rfl
@[simp] theorem fail_warm (k : FailKind) : (fail k s).warm = s.warm := rfl
@[simp] theorem fail_buf (k : FailKind) : (fail k s).buf = s.buf := rfl
@[simp] theorem fail_lr (k : FailKind) : (fail k s).lr = s.lr := rfl
@[simp] theorem fail_lrTs (k : FailKind) : (fail k s).lrTs = s.lrTs := rfl
@[simp] theorem fail_tsNew (k : FailKind) : (fail k s).tsNew = s.tsNew := rfl
@[simp] theorem fail_rspStatus (k : FailKind) : (fail k s).rspStatus = k.status := rfl
@[simp] theorem fail_rspValue (k : FailKind) : (fail k s).rspValue = nan16 := rfl
@[simp] theorem fail_rspValid (k : FailKind) : (fail k s).rspValid = true := rfl
@[simp] theorem fail_inp (k : FailKind) : (fail k s).inp = s.inp := rfl
@[simp] theorem fail_script (k : FailKind) : (fail k s).script = s.script := rfl
@[simp] theorem fail_draws (k : FailKind) : (fail k s).draws = s.draws := rfl

/-! #### `cacheHit` -/

@[simp] theorem cacheHit_cfg (sel : Bool) : (cacheHit sel s).cfg = s.cfg := rfl
@[simp] theorem cacheHit_phase (sel : Bool) : (cacheHit sel s).phase = s.phase := rfl
@[simp] theorem cacheHit_tmr (sel : Bool) : (cacheHit sel s).tmr = s.tmr := rfl
@[simp] theorem cacheHit_tidx (sel : Bool) : (cacheHit sel s).tidx = s.tidx := rfl
@[simp] theorem cacheHit_nbits (sel : Bool) : (cacheHit sel s).nbits = s.nbits := rfl
@[simp] theorem cacheHit_dur (sel : Bool) : (cacheHit sel s).dur = s.dur := rfl
@[simp] theorem cacheHit_cur (sel : Bool) : (cacheHit sel s).cur = s.cur := rfl
@[simp] theorem cacheHit_timedOut (sel : Bool) : (cacheHit sel s).timedOut = s.timedOut := rfl
@[simp] theorem cacheHit_sel (sel : Bool) : (cacheHit sel s).sel = s.sel := rfl
@[simp] theorem cacheHit_warm (sel : Bool) : (cacheHit sel s).warm = s.warm := rfl
@[simp] theorem cacheHit_buf (sel : Bool) : (cacheHit sel s).buf = s.buf := rfl
@[simp] theorem cacheHit_lr (sel : Bool) : (cacheHit sel s).lr = s.lr := rfl
@[simp] theorem cacheHit_lrTs (sel : Bool) : (cacheHit sel s).lrTs = s.lrTs := rfl
@[simp] theorem cacheHit_tsNew (sel : Bool) : (cacheHit sel s).tsNew = s.tsNew := rfl
@[simp] theorem cacheHit_rspStatus (sel : Bool) : (cacheHit sel s).rspStatus = .ok := rfl
@[simp] theorem cacheHit_rspValue (sel : Bool) : (cacheHit sel s).rspValue = value s.cfg.model sel s.lr := rfl
@[simp] theorem cacheHit_rspValid (sel : Bool) : (cacheHit sel s).rspValid = true := rfl
@[simp] theorem cacheHit_inp (sel : Bool) : (cacheHit sel s).inp = s.inp := rfl
@[simp] theorem cacheHit_script (sel : Bool) : (cacheHit sel s).script = s.script := rfl
@[simp] theorem cacheHit_draws (sel : Bool) : (cacheHit sel s).draws = s.draws := rfl

/-! #### `shiftIn` -/

@[simp] theorem shiftIn_cfg (b : Bool) : (shiftIn b s).cfg = s.cfg := rfl
@[simp] theorem shiftIn_phase (b : Bool) : (shiftIn b s).phase = s.phase := rfl
@[simp] theorem shiftIn_tmr (b : Bool) : (shiftIn b s).tmr = s.tmr := rfl
@[simp] theorem shiftIn_tidx (b : Bool) : (shiftIn b s).tidx = s.tidx := rfl
@[simp] theorem shiftIn_nbits (b : Bool) : (shiftIn b s).nbits = min (s.nbits + 1) 41 := rfl
@[simp] theorem shiftIn_dur (b : Bool) : (shiftIn b s).dur = s.dur := rfl
@[simp] theorem shiftIn_cur (b : Bool) : (shiftIn b s).cur = s.cur := rfl
@[simp] theorem shiftIn_timedOut (b : Bool) : (shiftIn b s).timedOut = s.timedOut := rfl
@[simp] theorem shiftIn_sel (b : Bool) : (shiftIn b s).sel = s.sel := rfl
@[simp] theorem shiftIn_warm (b : Bool) : (shiftIn b s).warm = s.warm := rfl
@[simp] theorem shiftIn_buf (b : Bool) : (shiftIn b s).buf = shiftFrame s.buf s.nbits b := rfl
@[simp] theorem shiftIn_lr (b : Bool) : (shiftIn b s).lr = s.lr := rfl
@[simp] theorem shiftIn_lrTs (b : Bool) : (shiftIn b s).lrTs = s.lrTs := rfl
@[simp] theorem shiftIn_tsNew (b : Bool) : (shiftIn b s).tsNew = s.tsNew := rfl
@[simp] theorem shiftIn_rspStatus (b : Bool) : (shiftIn b s).rspStatus = s.rspStatus := rfl
@[simp] theorem shiftIn_rspValue (b : Bool) : (shiftIn b s).rspValue = s.rspValue := rfl
@[simp] theorem shiftIn_rspValid (b : Bool) : (shiftIn b s).rspValid = s.rspValid := rfl
@[simp] theorem shiftIn_inp (b : Bool) : (shiftIn b s).inp = s.inp := rfl
@[simp] theorem shiftIn_script (b : Bool) : (shiftIn b s).script = s.script := rfl
@[simp] theorem shiftIn_draws (b : Bool) : (shiftIn b s).draws = s.draws := rfl

/-! #### `enterSample` -/

@[simp] theorem enterSample_cfg : (enterSample s).cfg = s.cfg := rfl
@[simp] theorem enterSample_phase : (enterSample s).phase = .sample := rfl
@[simp] theorem enterSample_tmr : (enterSample s).tmr = s.tmr := rfl
@[simp] theorem enterSample_tidx : (enterSample s).tidx = 0 := rfl
@[simp] theorem enterSample_nbits : (enterSample s).nbits = 0 := rfl
@[simp] theorem enterSample_dur : (enterSample s).dur = 0 := rfl
@[simp] theorem enterSample_cur : (enterSample s).cur = true := rfl
@[simp] theorem enterSample_timedOut : (enterSample s).timedOut = false := rfl
@[simp] theorem enterSample_sel : (enterSample s).sel = s.sel := rfl
@[simp] theorem enterSample_warm : (enterSample s).warm = s.warm := rfl
@[simp] theorem enterSample_buf : (enterSample s).buf = Frame.zero := rfl
@[simp] theorem enterSample_lr : (enterSample s).lr = s.lr := rfl
@[simp] theorem enterSample_lrTs : (enterSample s).lrTs = s.lrTs := rfl
@[simp] theorem enterSample_tsNew : (enterSample s).tsNew = s.tsNew := rfl
@[simp] theorem enterSample_rspStatus : (enterSample s).rspStatus = s.rspStatus := rfl
@[simp] theorem enterSample_rspValue : (enterSample s).rspValue = s.rspValue := rfl
@[simp] theorem enterSample_rspValid : (enterSample s).rspValid = s.rspValid := rfl
@[simp] theorem enterSample_inp : (enterSample s).inp = s.inp := rfl
@[simp] theorem enterSample_script : (enterSample s).script = s.script := rfl
@[simp] theorem enterSample_draws : (enterSample s).draws = s.draws := rfl

/-! #### `countTmr` -/

@[simp] theorem countTmr_cfg : (countTmr s).cfg = s.cfg := rfl
@[simp] theorem countTmr_phase : (countTmr s).phase = s.phase := rfl
@[simp] theorem countTmr_tmr : (countTmr s).tmr = s.tmr + 1 := rfl
@[simp] theorem countTmr_tidx : (countTmr s).tidx = s.tidx := rfl
@[simp] theorem countTmr_nbits : (countTmr s).nbits = s.nbits := rfl
@[simp] theorem countTmr_dur : (countTmr s).dur = s.dur := rfl
@[simp] theorem countTmr_cur : (countTmr s).cur = s.cur := rfl
@[simp] theorem countTmr_timedOut : (countTmr s).timedOut = s.timedOut := rfl
@[simp] theorem countTmr_sel : (countTmr s).sel = s.sel := rfl
@[simp] theorem countTmr_warm : (countTmr s).warm = s.warm := rfl
@[simp] theorem countTmr_buf : (countTmr s).buf = s.buf := rfl
@[simp] theorem countTmr_lr : (countTmr s).lr = s.lr := rfl
@[simp] theorem countTmr_lrTs : (countTmr s).lrTs = s.lrTs := rfl
@[simp] theorem countTmr_tsNew : (countTmr s).tsNew = s.tsNew := rfl
@[simp] theorem countTmr_rspStatus : (countTmr s).rspStatus = s.rspStatus := rfl
@[simp] theorem countTmr_rspValue : (countTmr s).rspValue = s.rspValue := rfl
@[simp] theorem countTmr_rspValid : (countTmr s).rspValid = false := rfl
@[simp] theorem countTmr_inp : (countTmr s).inp = s.inp := rfl
@[simp] theorem countTmr_script : (countTmr s).script = s.script := rfl
@[simp] theorem countTmr_draws : (countTmr s).draws = s.draws := rfl

/-! #### `enterDriven` -/

@[simp] theorem enterDriven_cfg (p : Phase) : (enterDriven p s).cfg = s.cfg := rfl
@[simp] theorem enterDriven_phase (p : Phase) : (enterDriven p s).phase = p := rfl
@[simp] theorem enterDriven_tmr (p : Phase) : (enterDriven p s).tmr = 0 := rfl
@[simp] theorem enterDriven_tidx (p : Phase) : (enterDriven p s).tidx = s.tidx := rfl
@[simp] theorem enterDriven_nbits (p : Phase) : (enterDriven p s).nbits = s.nbits := rfl
@[simp] theorem enterDriven_dur (p : Phase) : (enterDriven p s).dur = s.dur := rfl
@[simp] theorem enterDriven_cur (p : Phase) : (enterDriven p s).cur = s.cur := rfl
@[simp] theorem enterDriven_timedOut (p : Phase) : (enterDriven p s).timedOut = s.timedOut := rfl
@[simp] theorem enterDriven_sel (p : Phase) : (enterDriven p s).sel = s.sel := rfl
@[simp] theorem enterDriven_warm (p : Phase) : (enterDriven p s).warm = s.warm := rfl
@[simp] theorem enterDriven_buf (p : Phase) : (enterDriven p s).buf = s.buf := rfl
@[simp] theorem enterDriven_lr (p : Phase) : (enterDriven p s).lr = s.lr := rfl
@[simp] theorem enterDriven_lrTs (p : Phase) : (enterDriven p s).lrTs = s.lrTs := rfl
@[simp] theorem enterDriven_tsNew (p : Phase) : (enterDriven p s).tsNew = s.tsNew := rfl
@[simp] theorem enterDriven_rspStatus (p : Phase) : (enterDriven p s).rspStatus = s.rspStatus := rfl
@[simp] theorem enterDriven_rspValue (p : Phase) : (enterDriven p s).rspValue = s.rspValue := rfl
@[simp] theorem enterDriven_rspValid (p : Phase) : (enterDriven p s).rspValid = false := rfl
@[simp] theorem enterDriven_inp (p : Phase) : (enterDriven p s).inp = s.inp := rfl
@[simp] theorem enterDriven_script (p : Phase) : (enterDriven p s).script = s.script := rfl
@[simp] theorem enterDriven_draws (p : Phase) : (enterDriven p s).draws = s.draws := rfl

/-! #### `countDur` -/

@[simp] theorem countDur_cfg : (countDur s).cfg = s.cfg := rfl
@[simp] theorem countDur_phase : (countDur s).phase = s.phase := rfl
@[simp] theorem countDur_tmr : (countDur s).tmr = s.tmr := rfl
@[simp] theorem countDur_tidx : (countDur s).tidx = s.tidx := rfl
@[simp] theorem countDur_nbits : (countDur s).nbits = s.nbits := rfl
@[simp] theorem countDur_dur : (countDur s).dur = s.dur + 1 := rfl
@[simp] theorem countDur_cur : (countDur s).cur = s.cur := rfl
@[simp] theorem countDur_timedOut : (countDur s).timedOut = s.timedOut := rfl
@[simp] theorem countDur_sel : (countDur s).sel = s.sel := rfl
@[simp] theorem countDur_warm : (countDur s).warm = s.warm := rfl
@[simp] theorem countDur_buf : (countDur s).buf = s.buf := rfl
@[simp] theorem countDur_lr : (countDur s).lr = s.lr := rfl
@[simp] theorem countDur_lrTs : (countDur s).lrTs = s.lrTs := rfl
@[simp] theorem countDur_tsNew : (countDur s).tsNew = s.tsNew := rfl
@[simp] theorem countDur_rspStatus : (countDur s).rspStatus = s.rspStatus := rfl
@[simp] theorem countDur_rspValue : (countDur s).rspValue = s.rspValue := rfl
@[simp] theorem countDur_rspValid : (countDur s).rspValid = false := rfl
@[simp] theorem countDur_inp : (countDur s).inp = s.inp := rfl
@[simp] theorem countDur_script : (countDur s).script = s.script := rfl
@[simp] theorem countDur_draws : (countDur s).draws = s.draws := rfl

/-! #### `saturate` -/

@[simp] theorem saturate_cfg : (saturate s).cfg = s.cfg := rfl
@[simp] theorem saturate_phase : (saturate s).phase = .eval := rfl
@[simp] theorem saturate_tmr : (saturate s).tmr = s.tmr := rfl
@[simp] theorem saturate_tidx : (saturate s).tidx = s.tidx := rfl
@[simp] theorem saturate_nbits : (saturate s).nbits = s.nbits := rfl
@[simp] theorem saturate_dur : (saturate s).dur = s.cfg.timeoutCount := rfl
@[simp] theorem saturate_cur : (saturate s).cur = s.cur := rfl
@[simp] theorem saturate_timedOut : (saturate s).timedOut = true := rfl
@[simp] theorem saturate_sel : (saturate s).sel = s.sel := rfl
@[simp] theorem saturate_warm : (saturate s).warm = s.warm := rfl
@[simp] theorem saturate_buf : (saturate s).buf = s.buf := rfl
@[simp] theorem saturate_lr : (saturate s).lr = s.lr := rfl
@[simp] theorem saturate_lrTs : (saturate s).lrTs = s.lrTs := rfl
@[simp] theorem saturate_tsNew : (saturate s).tsNew = s.tsNew := rfl
@[simp] theorem saturate_rspStatus : (saturate s).rspStatus = s.rspStatus := rfl
@[simp] theorem saturate_rspValue : (saturate s).rspValue = s.rspValue := rfl
@[simp] theorem saturate_rspValid : (saturate s).rspValid = false := rfl
@[simp] theorem saturate_inp : (saturate s).inp = s.inp := rfl
@[simp] theorem saturate_script : (saturate s).script = s.script := rfl
@[simp] theorem saturate_draws : (saturate s).draws = s.draws := rfl

/-! #### `endByCap` -/

@[simp] theorem endByCap_cfg : (endByCap s).cfg = s.cfg := rfl
@[simp] theorem endByCap_phase : (endByCap s).phase = .eval := rfl
@[simp] theorem endByCap_tmr : (endByCap s).tmr = s.tmr := rfl
@[simp] theorem endByCap_tidx : (endByCap s).tidx = s.tidx := rfl
@[simp] theorem endByCap_nbits : (endByCap s).nbits = s.nbits := rfl
@[simp] theorem endByCap_dur : (endByCap s).dur = s.dur := rfl
@[simp] theorem endByCap_cur : (endByCap s).cur = s.cur := rfl
@[simp] theorem endByCap_timedOut : (endByCap s).timedOut = false := rfl
@[simp] theorem endByCap_sel : (endByCap s).sel = s.sel := rfl
@[simp] theorem endByCap_warm : (endByCap s).warm = s.warm := rfl
@[simp] theorem endByCap_buf : (endByCap s).buf = s.buf := rfl
@[simp] theorem endByCap_lr : (endByCap s).lr = s.lr := rfl
@[simp] theorem endByCap_lrTs : (endByCap s).lrTs = s.lrTs := rfl
@[simp] theorem endByCap_tsNew : (endByCap s).tsNew = s.tsNew := rfl
@[simp] theorem endByCap_rspStatus : (endByCap s).rspStatus = s.rspStatus := rfl
@[simp] theorem endByCap_rspValue : (endByCap s).rspValue = s.rspValue := rfl
@[simp] theorem endByCap_rspValid : (endByCap s).rspValid = s.rspValid := rfl
@[simp] theorem endByCap_inp : (endByCap s).inp = s.inp := rfl
@[simp] theorem endByCap_script : (endByCap s).script = s.script := rfl
@[simp] theorem endByCap_draws : (endByCap s).draws = s.draws := rfl

/-! #### `succeed` -/

@[simp] theorem succeed_cfg : (succeed s).cfg = s.cfg := rfl
@[simp] theorem succeed_phase : (succeed s).phase = s.phase := rfl
@[simp] theorem succeed_tmr : (succeed s).tmr = s.tmr := rfl
@[simp] theorem succeed_tidx : (succeed s).tidx = s.tidx := rfl
@[simp] theorem succeed_nbits : (succeed s).nbits = s.nbits := rfl
@[simp] theorem succeed_dur : (succeed s).dur = s.dur := rfl
@[simp] theorem succeed_cur : (succeed s).cur = s.cur := rfl
@[simp] theorem succeed_timedOut : (succeed s).timedOut = s.timedOut := rfl
@[simp] theorem succeed_sel : (succeed s).sel = s.sel := rfl
@[simp] theorem succeed_warm : (succeed s).warm = true := rfl
@[simp] theorem succeed_buf : (succeed s).buf = s.buf := rfl
@[simp] theorem succeed_lr : (succeed s).lr = s.buf := rfl
@[simp] theorem succeed_lrTs : (succeed s).lrTs = s.tsNew := rfl
@[simp] theorem succeed_tsNew : (succeed s).tsNew = s.tsNew := rfl
@[simp] theorem succeed_rspStatus : (succeed s).rspStatus = .ok := rfl
@[simp] theorem succeed_rspValue : (succeed s).rspValue = value s.cfg.model s.sel s.buf := rfl
@[simp] theorem succeed_rspValid : (succeed s).rspValid = true := rfl
@[simp] theorem succeed_inp : (succeed s).inp = s.inp := rfl
@[simp] theorem succeed_script : (succeed s).script = s.script := rfl
@[simp] theorem succeed_draws : (succeed s).draws = s.draws := rfl

/-! #### `noCommand` -/

@[simp] theorem noCommand_cfg : (noCommand s).cfg = s.cfg := rfl
@[simp] theorem noCommand_phase : (noCommand s).phase = s.phase := rfl
@[simp] theorem noCommand_tmr : (noCommand s).tmr = s.tmr := rfl
@[simp] theorem noCommand_tidx : (noCommand s).tidx = s.tidx := rfl
@[simp] theorem noCommand_nbits : (noCommand s).nbits = s.nbits := rfl
@[simp] theorem noCommand_dur : (noCommand s).dur = s.dur := rfl
@[simp] theorem noCommand_cur : (noCommand s).cur = s.cur := rfl
@[simp] theorem noCommand_timedOut : (noCommand s).timedOut = s.timedOut := rfl
@[simp] theorem noCommand_sel : (noCommand s).sel = s.sel := rfl
@[simp] theorem noCommand_warm : (noCommand s).warm = s.warm := rfl
@[simp] theorem noCommand_buf : (noCommand s).buf = s.buf := rfl
@[simp] theorem noCommand_lr : (noCommand s).lr = s.lr := rfl
@[simp] theorem noCommand_lrTs : (noCommand s).lrTs = s.lrTs := rfl
@[simp] theorem noCommand_tsNew : (noCommand s).tsNew = s.tsNew := rfl
@[simp] theorem noCommand_rspStatus : (noCommand s).rspStatus = s.rspStatus := rfl
@[simp] theorem noCommand_rspValue : (noCommand s).rspValue = s.rspValue := rfl
@[simp] theorem noCommand_rspValid : (noCommand s).rspValid = false := rfl
@[simp] theorem noCommand_inp : (noCommand s).inp = s.inp := rfl
@[simp] theorem noCommand_script : (noCommand s).script = s.script := rfl
@[simp] theorem noCommand_draws : (noCommand s).draws = s.draws := rfl

/-! #### `advanceInputs` -/

@[simp] theorem advanceInputs_cfg : (advanceInputs s).cfg = s.cfg := rfl
@[simp] theorem advanceInputs_phase : (advanceInputs s).phase = s.phase := rfl
@[simp] theorem advanceInputs_tmr : (advanceInputs s).tmr = s.tmr := rfl
@[simp] theorem advanceInputs_tidx : (advanceInputs s).tidx = s.tidx := rfl
@[simp] theorem advanceInputs_nbits : (advanceInputs s).nbits = s.nbits := rfl
@[simp] theorem advanceInputs_dur : (advanceInputs s).dur = s.dur := rfl
@[simp] theorem advanceInputs_cur : (advanceInputs s).cur = s.cur := rfl
@[simp] theorem advanceInputs_timedOut : (advanceInputs s).timedOut = s.timedOut := rfl
@[simp] theorem advanceInputs_sel : (advanceInputs s).sel = s.sel := rfl
@[simp] theorem advanceInputs_warm : (advanceInputs s).warm = s.warm := rfl
@[simp] theorem advanceInputs_buf : (advanceInputs s).buf = s.buf := rfl
@[simp] theorem advanceInputs_lr : (advanceInputs s).lr = s.lr := rfl
@[simp] theorem advanceInputs_lrTs : (advanceInputs s).lrTs = s.lrTs := rfl
@[simp] theorem advanceInputs_tsNew : (advanceInputs s).tsNew = s.tsNew := rfl
@[simp] theorem advanceInputs_rspStatus : (advanceInputs s).rspStatus = s.rspStatus := rfl
@[simp] theorem advanceInputs_rspValue : (advanceInputs s).rspValue = s.rspValue := rfl
@[simp] theorem advanceInputs_rspValid : (advanceInputs s).rspValid = s.rspValid := rfl
@[simp] theorem advanceInputs_inp : (advanceInputs s).inp = nextInputs s := rfl
@[simp] theorem advanceInputs_script : (advanceInputs s).script = s.script.tail := rfl
@[simp] theorem advanceInputs_draws : (advanceInputs s).draws = s.draws + 1 := rfl

/-! #### `resetRegisters`: the registers R175 names, the constants and the model's own fields -/

@[simp] theorem resetRegisters_cfg : (resetRegisters s).cfg = s.cfg := rfl
@[simp] theorem resetRegisters_phase : (resetRegisters s).phase = .idle := rfl
@[simp] theorem resetRegisters_warm : (resetRegisters s).warm = false := rfl
@[simp] theorem resetRegisters_rspStatus : (resetRegisters s).rspStatus = .ok := rfl
@[simp] theorem resetRegisters_rspValue : (resetRegisters s).rspValue = nan16 := rfl
@[simp] theorem resetRegisters_rspValid : (resetRegisters s).rspValid = false := rfl
@[simp] theorem resetRegisters_inp : (resetRegisters s).inp = s.inp := rfl
@[simp] theorem resetRegisters_script : (resetRegisters s).script = s.script := rfl
@[simp] theorem resetRegisters_draws : (resetRegisters s).draws = s.draws := rfl

/-! #### `decodeTransition`: `BUF` and `NBITS` only -/

@[simp] theorem decodeTransition_cfg (i d : Nat) : (decodeTransition i d s).cfg = s.cfg := by
  unfold decodeTransition; split <;> rfl
@[simp] theorem decodeTransition_phase (i d : Nat) : (decodeTransition i d s).phase = s.phase := by
  unfold decodeTransition; split <;> rfl
@[simp] theorem decodeTransition_tmr (i d : Nat) : (decodeTransition i d s).tmr = s.tmr := by
  unfold decodeTransition; split <;> rfl
@[simp] theorem decodeTransition_tidx (i d : Nat) : (decodeTransition i d s).tidx = s.tidx := by
  unfold decodeTransition; split <;> rfl
@[simp] theorem decodeTransition_dur (i d : Nat) : (decodeTransition i d s).dur = s.dur := by
  unfold decodeTransition; split <;> rfl
@[simp] theorem decodeTransition_cur (i d : Nat) : (decodeTransition i d s).cur = s.cur := by
  unfold decodeTransition; split <;> rfl
@[simp] theorem decodeTransition_timedOut (i d : Nat) : (decodeTransition i d s).timedOut = s.timedOut := by
  unfold decodeTransition; split <;> rfl
@[simp] theorem decodeTransition_sel (i d : Nat) : (decodeTransition i d s).sel = s.sel := by
  unfold decodeTransition; split <;> rfl
@[simp] theorem decodeTransition_warm (i d : Nat) : (decodeTransition i d s).warm = s.warm := by
  unfold decodeTransition; split <;> rfl
@[simp] theorem decodeTransition_lr (i d : Nat) : (decodeTransition i d s).lr = s.lr := by
  unfold decodeTransition; split <;> rfl
@[simp] theorem decodeTransition_lrTs (i d : Nat) : (decodeTransition i d s).lrTs = s.lrTs := by
  unfold decodeTransition; split <;> rfl
@[simp] theorem decodeTransition_tsNew (i d : Nat) : (decodeTransition i d s).tsNew = s.tsNew := by
  unfold decodeTransition; split <;> rfl
@[simp] theorem decodeTransition_rspStatus (i d : Nat) : (decodeTransition i d s).rspStatus = s.rspStatus := by
  unfold decodeTransition; split <;> rfl
@[simp] theorem decodeTransition_rspValue (i d : Nat) : (decodeTransition i d s).rspValue = s.rspValue := by
  unfold decodeTransition; split <;> rfl
@[simp] theorem decodeTransition_rspValid (i d : Nat) : (decodeTransition i d s).rspValid = s.rspValid := by
  unfold decodeTransition; split <;> rfl
@[simp] theorem decodeTransition_inp (i d : Nat) : (decodeTransition i d s).inp = s.inp := by
  unfold decodeTransition; split <;> rfl
@[simp] theorem decodeTransition_script (i d : Nat) : (decodeTransition i d s).script = s.script := by
  unfold decodeTransition; split <;> rfl
@[simp] theorem decodeTransition_draws (i d : Nat) : (decodeTransition i d s).draws = s.draws := by
  unfold decodeTransition; split <;> rfl

/-! #### `completeTransition` -/

@[simp] theorem completeTransition_cfg : (completeTransition s).cfg = s.cfg := decodeTransition_cfg s s.tidx s.dur
@[simp] theorem completeTransition_phase : (completeTransition s).phase = s.phase := decodeTransition_phase s s.tidx s.dur
@[simp] theorem completeTransition_tmr : (completeTransition s).tmr = s.tmr := decodeTransition_tmr s s.tidx s.dur
@[simp] theorem completeTransition_tidx : (completeTransition s).tidx = s.tidx + 1 := rfl
@[simp] theorem completeTransition_nbits : (completeTransition s).nbits = (decodeTransition s.tidx s.dur s).nbits := rfl
@[simp] theorem completeTransition_dur : (completeTransition s).dur = 0 := rfl
@[simp] theorem completeTransition_cur : (completeTransition s).cur = s.inp.lineIn := rfl
@[simp] theorem completeTransition_timedOut : (completeTransition s).timedOut = s.timedOut := decodeTransition_timedOut s s.tidx s.dur
@[simp] theorem completeTransition_sel : (completeTransition s).sel = s.sel := decodeTransition_sel s s.tidx s.dur
@[simp] theorem completeTransition_warm : (completeTransition s).warm = s.warm := decodeTransition_warm s s.tidx s.dur
@[simp] theorem completeTransition_buf : (completeTransition s).buf = (decodeTransition s.tidx s.dur s).buf := rfl
@[simp] theorem completeTransition_lr : (completeTransition s).lr = s.lr := decodeTransition_lr s s.tidx s.dur
@[simp] theorem completeTransition_lrTs : (completeTransition s).lrTs = s.lrTs := decodeTransition_lrTs s s.tidx s.dur
@[simp] theorem completeTransition_tsNew : (completeTransition s).tsNew = s.tsNew := decodeTransition_tsNew s s.tidx s.dur
@[simp] theorem completeTransition_rspStatus : (completeTransition s).rspStatus = s.rspStatus := decodeTransition_rspStatus s s.tidx s.dur
@[simp] theorem completeTransition_rspValue : (completeTransition s).rspValue = s.rspValue := decodeTransition_rspValue s s.tidx s.dur
@[simp] theorem completeTransition_rspValid : (completeTransition s).rspValid = false := rfl
@[simp] theorem completeTransition_inp : (completeTransition s).inp = s.inp := decodeTransition_inp s s.tidx s.dur
@[simp] theorem completeTransition_script : (completeTransition s).script = s.script := decodeTransition_script s s.tidx s.dur
@[simp] theorem completeTransition_draws : (completeTransition s).draws = s.draws := decodeTransition_draws s s.tidx s.dur

end Sys2Proof.Machine
end

