-- ==== Sys2Proof/Laws/Frames.lean ====
section
/-! SUPPORT. Frames byte by byte: reading after writing (20_memory.md R40), `ShiftIn` on the buffer (R42), and the values
of a frame (42_decoder_assembler.md R115, R116). -/

namespace Sys2Proof.Machine

@[simp] theorem frameGet_frameSet_same (f : Frame) (k : Fin 5) (v : Byte) : frameGet (frameSet f k v) k = v := by
  fin_cases k <;> rfl

theorem frameGet_frameSet_other (f : Frame) (j k : Fin 5) (v : Byte) (h : k ≠ j) :
    frameGet (frameSet f j v) k = frameGet f k := by
  revert h; fin_cases j <;> fin_cases k <;> intro h <;> first | rfl | exact absurd rfl h

@[simp] theorem frameGet_zero (k : Fin 5) : frameGet Frame.zero k = 0 := by
  fin_cases k <;> rfl

/-- Two frames with the same five bytes are the same frame. -/
theorem frame_ext {f g : Frame} (h : ∀ k, frameGet f k = frameGet g k) : f = g := by
  cases f; cases g
  have h0 := h 0; have h1 := h 1; have h2 := h 2; have h3 := h 3; have h4 := h 4
  simp only [frameGet] at h0 h1 h2 h3 h4
  simp_all

/-- `{v[6:0], b}` as a number (R42, R106). -/
theorem shiftByte_toNat (v : Byte) (b : Bool) :
    (v.extractLsb' 0 7 ++ BitVec.ofBool b : BitVec 8).toNat = (2 * v.toNat + b.toNat) % 256 := by
  have hv : v.toNat < 256 := v.isLt
  rw [BitVec.toNat_append, BitVec.extractLsb'_toNat]
  have hb : (BitVec.ofBool b).toNat = b.toNat := by cases b <;> rfl
  rw [hb, Nat.shiftLeft_eq, Nat.shiftRight_zero]
  have hlt : b.toNat < 2 ^ 1 := by cases b <;> decide
  rw [← Nat.shiftLeft_eq, ← Nat.shiftLeft_add_eq_or_of_lt hlt, Nat.shiftLeft_eq]
  omega

theorem shiftFrame_of_ge (f : Frame) (n : Nat) (b : Bool) (h : 40 ≤ n) : shiftFrame f n b = f := by
  unfold shiftFrame; rw [dif_neg (by omega)]

/-- The byte a data bit enters, and the four it does not (R42, R44). -/
theorem frameGet_shiftFrame (f : Frame) (n : Nat) (b : Bool) (h : n < 40) (k : Fin 5) :
    (frameGet (shiftFrame f n b) k).toNat =
      if k.val = n / 8 then (2 * (frameGet f k).toNat + b.toNat) % 256 else (frameGet f k).toNat := by
  unfold shiftFrame
  rw [dif_pos h]
  by_cases hk : k.val = n / 8
  · rw [if_pos hk, show k = ⟨n / 8, by omega⟩ from Fin.ext hk]
    exact (congrArg BitVec.toNat (frameGet_frameSet_same _ _ _)).trans (shiftByte_toNat _ _)
  · rw [if_neg hk]
    exact congrArg BitVec.toNat (frameGet_frameSet_other _ _ _ _ (fun e => hk (congrArg Fin.val e)))

/-- A scaled word as a number (R69). -/
theorem scaledWord_toNat (hi lo : Byte) : (scaledWord hi lo).toNat = hi.toNat % 128 * 256 + lo.toNat := by
  unfold scaledWord
  rw [BitVec.toNat_append, BitVec.toNat_append, BitVec.extractLsb'_toNat]
  have hlo : lo.toNat < 2 ^ 8 := lo.isLt
  rw [← Nat.shiftLeft_add_eq_or_of_lt hlo]
  simp [Nat.shiftLeft_eq]

/-- A scaled word is below 2^15: no sum of one is NAN16 (R64, R119). -/
theorem scaledWord_lt (hi lo : Byte) : (scaledWord hi lo).toNat < 2 ^ 15 := by
  rw [scaledWord_toNat]
  have := lo.isLt
  omega

/-- neg16 of a number below 2^15 is its negative in two's complement (R8, R119). -/
theorem neg16_toInt (v : Half) (h : v.toNat < 2 ^ 15) : (neg16 v).toInt = -(v.toNat : Int) := by
  unfold neg16
  rw [BitVec.toInt_eq_toNat_cond, BitVec.toNat_ofNat]
  split <;> omega

end Sys2Proof.Machine
end

