-- ==== Sys2Proof/Laws/Flags.lean ====
section
/-! SUPPORT. The one-bit decisions as propositions, and the count of data transitions. -/

namespace Sys2Proof.Machine

/-- R126 with its subtraction as the rule writes it. -/
theorem hit_eq_true_iff (s : State) (t : Nat) :
    hit s t = true ↔ s.warm = true ∧ s.lrTs ≤ t ∧ t - s.lrTs < s.cfg.minIntervalMs := by
  simp [hit]

/-- A read runs the pipeline exactly when it misses (R129). -/
theorem hit_eq_false_iff (s : State) : hit s (sampledTime s) = false ↔ Misses s := by
  rw [← Bool.not_eq_true, hit_eq_true_iff, Misses]
  cases s.warm <;> simp
  omega

theorem isData_iff (i : Nat) : isData i = true ↔ 4 ≤ i ∧ i % 2 = 0 := by
  simp only [isData, Bool.and_eq_true, decide_eq_true_eq, beq_iff_eq]
  exact Iff.rfl

/-- Success needs exactly 40 bits and the checksum (R109). -/
theorem verdict_eq_none_iff (n : Nat) (t : Bool) (f : Frame) :
    verdict n t f = none ↔ n = 40 ∧ checksumOk f = true := by
  unfold verdict
  split
  · simp; omega
  · split
    · simp; omega
    · split <;> simp_all
      omega

/-- A SAMPLE tick finds every register in range (U10). -/
theorem sampleStuck_eq_none_iff (s : State) :
    sampleStuck s = none ↔ s.dur ≤ s.cfg.timeoutCount ∧ s.tidx ≤ s.cfg.maxTransitions ∧ s.nbits ≤ 41 := by
  unfold sampleStuck
  split
  · simp; omega
  · split
    · simp; omega
    · split <;> simp <;> omega

/-- The data transitions before index t, not capped. -/
theorem dataTransitions_length (t : Nat) : ((List.range t).filter isData).length = (t - 3) / 2 := by
  induction t with
  | zero => rfl
  | succ n ih =>
    rw [List.range_succ, List.filter_append, List.length_append, ih]
    by_cases h : isData n = true
    · have := (isData_iff n).1 h
      simp [h]
      omega
    · have hn := mt (isData_iff n).2 h
      simp [h]
      omega

/-- R39 and R68 in closed form. -/
theorem dataCount_eq (t : Nat) : dataCount t = min 41 ((t - 3) / 2) := by
  rw [dataCount, dataTransitions_length]

@[simp] theorem dataCount_zero : dataCount 0 = 0 := rfl

theorem dataCount_le (t : Nat) : dataCount t ≤ 41 := min_le_left _ _

/-- One more transition adds one data bit exactly when it is a data transition (R108, R39). -/
theorem dataCount_succ (t : Nat) :
    dataCount (t + 1) = if isData t = true then min (dataCount t + 1) 41 else dataCount t := by
  rw [dataCount_eq, dataCount_eq]
  split
  · next h => have := (isData_iff t).1 h; omega
  · next h => have := mt (isData_iff t).2 h; omega

@[simp] theorem partialFrame_zero (n : Nat) : PartialFrame n Frame.zero := by
  intro k
  rw [frameGet_zero]
  exact Nat.two_pow_pos _

/-- A shift keeps the partial frame partial (R42, R44). -/
theorem partialFrame_shift {n : Nat} {f : Frame} (b : Bool) (hn : n ≤ 41) (h : PartialFrame n f) :
    PartialFrame (min (n + 1) 41) (shiftFrame f n b) := by
  intro k
  have hk := h k
  have hf := (frameGet f k).isLt
  rcases Nat.lt_or_ge n 40 with hlt | hge
  · rw [frameGet_shiftFrame f n b hlt k]
    have hb : b.toNat ≤ 1 := by cases b <;> decide
    have hmin : min (n + 1) 41 = n + 1 := by omega
    rw [hmin]
    have hmono : 2 ^ (n - 8 * k.val) ≤ 2 ^ (n + 1 - 8 * k.val) := Nat.pow_le_pow_right (by decide) (by omega)
    split
    · next he =>
      have hsplit : n + 1 - 8 * k.val = (n - 8 * k.val) + 1 := by omega
      rw [hsplit, Nat.pow_succ]
      have : (2 * (frameGet f k).toNat + b.toNat) % 256 ≤ 2 * (frameGet f k).toNat + b.toNat := Nat.mod_le _ _
      omega
    · omega
  · rw [shiftFrame_of_ge f n b hge]
    have hmono : 2 ^ (n - 8 * k.val) ≤ 2 ^ (min (n + 1) 41 - 8 * k.val) :=
      Nat.pow_le_pow_right (by decide) (by omega)
    omega

end Sys2Proof.Machine
end

