-- ==== Sys2Proof/Laws/Step.lean ====
section
/-! SUPPORT. What a step can do, once: one equation per kind of tick, and the inversion lemma `tick_cases`. -/

namespace Sys2Proof.Machine

variable {s s' : State}

/-! #### The passing of a tick on the outside -/

/-- A step that answers a next state is a tick of the registers, then the next inputs. -/
theorem step_next_iff : step s = .next s' ↔ ∃ u, tick s = .next u ∧ s' = advanceInputs u := by
  unfold step thenAdvance
  cases h : tick s with
  | next u =>
    constructor
    · intro e; exact ⟨u, rfl, by injection e with e; exact e.symm⟩
    · rintro ⟨v, e, rfl⟩; injection e with e; rw [e]
  | fault f => simp
  | refused r => simp

theorem step_of_tick {u : State} (h : tick s = .next u) : step s = .next (advanceInputs u) :=
  step_next_iff.2 ⟨u, h, rfl⟩

/-! #### The tick, phase by phase -/

theorem tick_rst (h : s.inp.rst = true) : tick s = .next (resetRegisters s) := by
  unfold tick; rw [if_pos h]

theorem tick_idle (hr : s.inp.rst = false) (hp : s.phase = .idle) : tick s = idleTick s := by
  unfold tick; rw [hr, hp]; rfl

theorem tick_settle (hr : s.inp.rst = false) (hp : s.phase = .settle) : tick s = settleTick s := by
  unfold tick; rw [hr, hp]; rfl

theorem tick_resetlow (hr : s.inp.rst = false) (hp : s.phase = .resetlow) : tick s = resetlowTick s := by
  unfold tick; rw [hr, hp]; rfl

theorem tick_release (hr : s.inp.rst = false) (hp : s.phase = .release) : tick s = releaseTick s := by
  unfold tick; rw [hr, hp]; rfl

theorem tick_sample (hr : s.inp.rst = false) (hp : s.phase = .sample) : tick s = sampleTick s := by
  unfold tick; rw [hr, hp]; rfl

theorem tick_eval (hr : s.inp.rst = false) (hp : s.phase = .eval) : tick s = evalTick s := by
  unfold tick; rw [hr, hp]; rfl

/-! #### What an accepted command does -/

/-- Every command answers a next state: INIT, the reserved word, a hit, or the start of a run. -/
theorem exec_cases (i : Instr) (s : State) :
    (i = .init ∧ exec i s = .next (initCommand s)) ∨
    (i = .rsvd ∧ exec i s = .next (reservedCommand s)) ∨
    (∃ sel, i = readOf sel ∧ hit s (sampledTime s) = true ∧ exec i s = .next (cacheHit sel s)) ∨
    (∃ sel, i = readOf sel ∧ hit s (sampledTime s) = false ∧ exec i s = .next (startRun sel (sampledTime s) s)) := by
  cases i with
  | init => exact .inl ⟨rfl, rfl⟩
  | rsvd => exact .inr (.inl ⟨rfl, rfl⟩)
  | rdhum =>
    cases h : hit s (sampledTime s)
    · exact .inr (.inr (.inr ⟨false, rfl, rfl, by simp [exec, execRdhum, readCommand, h]⟩))
    · exact .inr (.inr (.inl ⟨false, rfl, rfl, by simp [exec, execRdhum, readCommand, h]⟩))
  | rdtemp =>
    cases h : hit s (sampledTime s)
    · exact .inr (.inr (.inr ⟨true, rfl, rfl, by simp [exec, execRdtemp, readCommand, h]⟩))
    · exact .inr (.inr (.inl ⟨true, rfl, rfl, by simp [exec, execRdtemp, readCommand, h]⟩))

/-! #### The inversion lemma -/

/-- Everything one tick of the registers can do when it answers a next state. -/
inductive TickCase (s : State) : State → Prop
  | reset (hr : s.inp.rst = true) : TickCase s (resetRegisters s)
  | wait (hr : s.inp.rst = false) (hp : s.phase = .idle) (hc : s.inp.cmdValid = false) : TickCase s (noCommand s)
  | init (ha : Accepts s .init) : TickCase s (initCommand s)
  | reserved (ha : Accepts s .rsvd) : TickCase s (reservedCommand s)
  | hit (sel : Bool) (ha : Accepts s (readOf sel)) (hh : Machine.hit s (sampledTime s) = true) :
      TickCase s (cacheHit sel s)
  | miss (sel : Bool) (ha : Accepts s (readOf sel)) (hh : Machine.hit s (sampledTime s) = false) :
      TickCase s (startRun sel (sampledTime s) s)
  | count (hr : s.inp.rst = false) (hp : Driven s.phase) (hl : s.tmr < s.cfg.timerLimit)
      (ht : s.tmr ≠ drivenTicks s.cfg.toParams s.phase - 1) : TickCase s (countTmr s)
  | toResetlow (hr : s.inp.rst = false) (hp : s.phase = .settle) (hl : s.tmr < s.cfg.timerLimit)
      (ht : s.tmr = s.cfg.settleTicks - 1) : TickCase s (enterDriven .resetlow s)
  | toRelease (hr : s.inp.rst = false) (hp : s.phase = .resetlow) (hl : s.tmr < s.cfg.timerLimit)
      (ht : s.tmr = s.cfg.resetTicks - 1) : TickCase s (enterDriven .release s)
  | toSample (hr : s.inp.rst = false) (hp : s.phase = .release) (hl : s.tmr < s.cfg.timerLimit)
      (ht : s.tmr = s.cfg.releaseTicks - 1) : TickCase s { enterSample s with rspValid := false }
  | countLevel (hr : s.inp.rst = false) (hp : s.phase = .sample) (hn : sampleStuck s = none)
      (hs : s.inp.lineIn = s.cur) (hd : s.dur + 1 ≠ s.cfg.timeoutCount) : TickCase s (countDur s)
  | timeout (hr : s.inp.rst = false) (hp : s.phase = .sample) (hn : sampleStuck s = none)
      (hs : s.inp.lineIn = s.cur) (hd : s.dur + 1 = s.cfg.timeoutCount) : TickCase s (saturate s)
  | transition (hr : s.inp.rst = false) (hp : s.phase = .sample) (hn : sampleStuck s = none)
      (hs : s.inp.lineIn ≠ s.cur) (hm : s.tidx + 1 ≠ s.cfg.maxTransitions) : TickCase s (completeTransition s)
  | cap (hr : s.inp.rst = false) (hp : s.phase = .sample) (hn : sampleStuck s = none)
      (hs : s.inp.lineIn ≠ s.cur) (hm : s.tidx + 1 = s.cfg.maxTransitions) :
      TickCase s (endByCap (completeTransition s))
  | success (hr : s.inp.rst = false) (hp : s.phase = .eval)
      (hv : verdict s.nbits s.timedOut s.buf = none) : TickCase s { succeed s with phase := .idle }
  | failure (k : FailKind) (hr : s.inp.rst = false) (hp : s.phase = .eval) (hn : s.nbits ≤ 41)
      (hv : verdict s.nbits s.timedOut s.buf = some k) : TickCase s { fail k s with phase := .idle }

theorem idleTick_cases (hr : s.inp.rst = false) (hp : s.phase = .idle) (h : idleTick s = .next s') : TickCase s s' := by
  unfold idleTick at h
  split at h
  · next hc =>
    rcases exec_cases (decode s.inp.cmdOp) s with ⟨hi, e⟩ | ⟨hi, e⟩ | ⟨sel, hi, hh, e⟩ | ⟨sel, hi, hh, e⟩ <;>
      (rw [e] at h; injection h with h; subst h)
    · exact .init ⟨hr, hc, hp, hi⟩
    · exact .reserved ⟨hr, hc, hp, hi⟩
    · exact .hit sel ⟨hr, hc, hp, hi⟩ hh
    · exact .miss sel ⟨hr, hc, hp, hi⟩ hh
  · next hc =>
    injection h with h; subst h
    exact .wait hr hp (by simpa using hc)

/-- The inversion lemma: a tick that answers a next state did one of the sixteen things above. -/
theorem tick_cases (h : tick s = .next s') : TickCase s s' := by
  cases hr : s.inp.rst with
  | true => rw [tick_rst hr] at h; injection h with h; subst h; exact .reset hr
  | false =>
    cases hp : s.phase with
    | idle => rw [tick_idle hr hp] at h; exact idleTick_cases hr hp h
    | settle =>
      rw [tick_settle hr hp] at h
      unfold settleTick tmrStuck at h
      split at h
      · cases h
      · next hl =>
        split at h <;> injection h with h <;> subst h
        · next ht => exact .toResetlow hr hp (by simpa using hl) ht
        · next ht => exact .count hr (.inl hp) (by simpa using hl) (by rw [hp]; exact ht)
    | resetlow =>
      rw [tick_resetlow hr hp] at h
      unfold resetlowTick tmrStuck at h
      split at h
      · cases h
      · next hl =>
        split at h <;> injection h with h <;> subst h
        · next ht => exact .toRelease hr hp (by simpa using hl) ht
        · next ht => exact .count hr (.inr (.inl hp)) (by simpa using hl) (by rw [hp]; exact ht)
    | release =>
      rw [tick_release hr hp] at h
      unfold releaseTick tmrStuck at h
      split at h
      · cases h
      · next hl =>
        split at h <;> injection h with h <;> subst h
        · next ht => exact .toSample hr hp (by simpa using hl) ht
        · next ht => exact .count hr (.inr (.inr hp)) (by simpa using hl) (by rw [hp]; exact ht)
    | sample =>
      rw [tick_sample hr hp] at h
      unfold sampleTick at h
      split at h
      · cases h
      · next hn =>
        split at h
        · next hs =>
          split at h <;> injection h with h <;> subst h
          · next hd => exact .timeout hr hp hn hs hd
          · next hd => exact .countLevel hr hp hn hs hd
        · next hs =>
          split at h <;> injection h with h <;> subst h
          · next hm => exact .cap hr hp hn hs hm
          · next hm => exact .transition hr hp hn hs hm
    | eval =>
      rw [tick_eval hr hp] at h
      unfold evalTick evalStuck at h
      split at h
      · cases h
      · next hn =>
        split at h <;> injection h with h <;> subst h
        · next hv => exact .success hr hp hv
        · next k hv => exact .failure k hr hp (by simpa using hn) hv

/-- The inversion lemma for a step. -/
theorem step_cases (h : step s = .next s') : ∃ u, TickCase s u ∧ s' = advanceInputs u := by
  obtain ⟨u, hu, rfl⟩ := step_next_iff.1 h
  exact ⟨u, tick_cases hu, rfl⟩

end Sys2Proof.Machine
end

