-- ==== Sys2Proof/Laws/Run.lean ====
section
/-! SUPPORT. Runs: one step at a time, in two parts, and the inputs a run sees. -/

namespace Sys2Proof.Machine

variable {s s' : State}

@[simp] theorem runTicks_zero : runTicks 0 s = .next s := rfl

theorem runTicks_succ (h : step s = .next s') (k : Nat) : runTicks (k + 1) s = runTicks k s' := by
  show (match step s with
    | .next s' => runTicks k s'
    | .fault f => .fault f
    | .refused r => .refused r) = _
  rw [h]

/-- A run in two parts. -/
theorem runTicks_add {j : Nat} (h : runTicks j s = .next s') (k : Nat) : runTicks (j + k) s = runTicks k s' := by
  induction j generalizing s with
  | zero => injection h with h; subst h; rw [Nat.zero_add]
  | succ j ih =>
    cases hs : step s with
    | next u => rw [runTicks_succ hs] at h; rw [Nat.succ_add, runTicks_succ hs]; exact ih h
    | fault f => simp [runTicks, hs] at h
    | refused r => simp [runTicks, hs] at h

/-- The first step of a run that answers a next state. -/
theorem runTicks_succ_inv {k : Nat} (h : runTicks (k + 1) s = .next s') :
    ∃ u, step s = .next u ∧ runTicks k u = .next s' := by
  cases hs : step s with
  | next u => exact ⟨u, rfl, by rwa [runTicks_succ hs] at h⟩
  | fault f => simp [runTicks, hs] at h
  | refused r => simp [runTicks, hs] at h

/-- The inputs seen after the passing of a tick are the ones seen before, one tick on. -/
theorem inputsAt_advanceInputs (s : State) (k : Nat) : inputsAt (advanceInputs s) k = inputsAt s (k + 1) := by
  cases k with
  | zero =>
    cases h : s.script <;> simp [inputsAt, nextInputs, h]
  | succ k =>
    cases h : s.script <;> simp [inputsAt, h, Nat.add_assoc, Nat.add_comm 1 k]

/-- No tick of the registers touches what the outside has laid down. -/
theorem tick_outside {u : State} (h : tick s = .next u) :
    u.inp = s.inp ∧ u.script = s.script ∧ u.draws = s.draws ∧ u.cfg = s.cfg := by
  cases tick_cases h <;> simp

theorem inputsAt_congr {u : State} (hi : u.inp = s.inp) (hs : u.script = s.script) (hd : u.draws = s.draws) (k : Nat) :
    inputsAt u k = inputsAt s k := by
  cases k <;> simp [inputsAt, hi, hs, hd]

/-- The inputs a run sees after a step are the ones it saw before, one tick on. -/
theorem inputsAt_step (h : step s = .next s') (k : Nat) : inputsAt s' k = inputsAt s (k + 1) := by
  obtain ⟨u, hu, rfl⟩ := step_next_iff.1 h
  obtain ⟨hi, hs, hd, _⟩ := tick_outside hu
  rw [inputsAt_advanceInputs, inputsAt_congr hi hs hd]

theorem noReset_step {k : Nat} (h : step s = .next s') (hn : NoReset s (k + 1)) : NoReset s' k := by
  intro j hj
  rw [inputsAt_step h]
  exact hn (j + 1) (by omega)

theorem waveFrom_step (h : step s = .next s') (a n : Nat) : waveFrom s' a n = waveFrom s (a + 1) n := by
  unfold waveFrom
  rw [inputsAt_step h, Nat.add_right_comm]

end Sys2Proof.Machine
end

