-- ==== Sys2Proof/Laws/Train.lean ====
section
/-! SUPPORT. One round of `Decode` (42_decoder_assembler.md R106) is one `DecodeTransition` (R108), and the trains of a
pass. -/

namespace Sys2Proof.Machine

/-- The arithmetic shift of R106 and the bit shift of R42 give the same byte. -/
theorem shiftByte_eq (v : Byte) (b : Bool) :
    (v.extractLsb' 0 7 ++ BitVec.ofBool b : BitVec 8) = BitVec.ofNat 8 ((2 * v.toNat + b.toNat) % 256) := by
  apply BitVec.eq_of_toNat_eq
  rw [shiftByte_toNat, BitVec.toNat_ofNat]
  omega

/-- `Decode`'s round on what the registers hold is `DecodeTransition` (R98, R106, R108). -/
theorem decodeEntry_eq (s : State) (i d : Nat) :
    decodeEntry s.cfg.threshold (s.buf, s.nbits) i d =
      ((decodeTransition i d s).buf, (decodeTransition i d s).nbits) := by
  unfold decodeEntry decodeTransition
  by_cases h : 4 ≤ i ∧ i % 2 = 0
  · rw [if_pos h, if_pos ((isData_iff i).2 h)]
    have hb : (if s.cfg.threshold < d then 1 else 0) = (bitOf s.cfg.threshold d).toNat := by
      by_cases hd : s.cfg.threshold < d <;> simp [bitOf, hd]
    simp only [hb, shiftIn_buf, shiftIn_nbits, shiftFrame]
    by_cases hn : s.nbits < 40
    · simp only [dif_pos hn]
      rw [← shiftByte_eq]
    · simp only [dif_neg hn]
  · rw [if_neg h, if_neg (mt (isData_iff i).1 h)]

/-- The number of bits after one round depends on the index alone (R39, R68). -/
theorem decodeEntry_nbits (th i d : Nat) (f : Frame) :
    (decodeEntry th (f, dataCount i) i d).2 = dataCount (i + 1) := by
  unfold decodeEntry
  rw [dataCount_succ]
  by_cases h : 4 ≤ i ∧ i % 2 = 0
  · rw [if_pos h, if_pos ((isData_iff i).2 h)]
  · rw [if_neg h, if_neg (mt (isData_iff i).1 h)]

theorem decodeFrom_append (th i : Nat) (acc : Frame × Nat) (t u : List Nat) :
    decodeFrom th acc i (t ++ u) = decodeFrom th (decodeFrom th acc i t) (i + t.length) u := by
  induction t generalizing acc i with
  | nil => rfl
  | cons d t ih =>
    show decodeFrom th (decodeEntry th acc i d) (i + 1) (t ++ u) = _
    rw [ih, List.length_cons, Nat.add_assoc, Nat.add_comm 1]
    rfl

theorem trainTicks_append (t u : List Nat) : trainTicks (t ++ u) = trainTicks t + trainTicks u := by
  induction t with
  | nil => simp [trainTicks]
  | cons d t ih => simp [trainTicks, ih, Nat.add_assoc]

end Sys2Proof.Machine
end

