-- ==== Sys2Proof/Laws/PerInstr.lean ====
section
/-! SUPPORT. The per-instruction family RoundTrip: a command's word, decoded, is the command (30_encoding.md R60). -/

namespace Sys2Proof.Laws.RoundTrip

/-- The word of a well-formed command decodes to it, and its byte does too. -/
def Statement (i : Instr) : Prop :=
  i.wf = true → decode (encode i) = i ∧ ∀ rest, decodeBytes (encodeBytes i ++ rest) = .ok (i, rest)

theorem init : Statement .init := fun _ => ⟨by decide, fun _ => rfl⟩

theorem rdhum : Statement .rdhum := fun _ => ⟨by decide, fun _ => rfl⟩

theorem rdtemp : Statement .rdtemp := fun _ => ⟨by decide, fun _ => rfl⟩

theorem rsvd : Statement .rsvd := fun _ => ⟨by decide, fun _ => rfl⟩

end Sys2Proof.Laws.RoundTrip
end

