-- ==== Sys2Proof/Tests/Slice0.lean ====
section
/-! SUPPORT. Tests of one step or one operation, with expected results from spec/ (each test names its source), the
smoke tests of the well-formedness checks, and a witness for every obligation that has hypotheses. -/

namespace Sys2Proof.Tests

open Sys2Proof Sys2Proof.Machine

/-! ### Well-formedness refuses each ill-formed term -/

/-- The defaults of R6 with a THRESHOLD of 40 (95_test_vectors.md). -/
def stdParams : Params := { model := .scaled, threshold := 40 }

theorem test_std_params_legal : stdParams.wf = true := by decide
theorem test_threshold_too_high : ({ stdParams with threshold := 254 } : Params).wf = false := by decide
theorem test_settle_zero : ({ stdParams with settleTicks := 0 } : Params).wf = false := by decide
theorem test_reset_zero : ({ stdParams with resetTicks := 0 } : Params).wf = false := by decide
theorem test_release_short : ({ stdParams with releaseTicks := 9 } : Params).wf = false := by decide
theorem test_release_long : ({ stdParams with releaseTicks := 100 } : Params).wf = false := by decide
theorem test_release_zero_at_any_tick : ({ stdParams with tTickNs := 7, releaseTicks := 0 } : Params).wf = false := by
  decide
theorem test_cap_zero : ({ stdParams with maxTransitions := 0 } : Params).wf = false := by decide
theorem test_cap_too_high : ({ stdParams with maxTransitions := 128 } : Params).wf = false := by decide
theorem test_timeout_too_low : ({ stdParams with threshold := 0, timeoutCount := 1 } : Params).wf = false := by decide
theorem test_timeout_too_high : ({ stdParams with timeoutCount := 256 } : Params).wf = false := by decide
theorem test_interval_too_long : ({ stdParams with minIntervalMs := 2 ^ 32 } : Params).wf = false := by decide
theorem test_ts_width_zero : ({ stdParams with minIntervalMs := 0, tsWidth := 0 } : Params).wf = false := by decide

/-- The widths of 95_test_vectors.md. -/
def stdWidths : PulseWidths := { lead0 := 30, lead1 := 80, lead2 := 80, lead3 := 50, sep := 50, zero := 27, one := 70 }

theorem test_std_widths_legal : stdWidths.wf stdParams = true := by decide
theorem test_zero_symbol_too_long : ({ stdWidths with zero := 41 } : PulseWidths).wf stdParams = false := by decide
theorem test_one_symbol_too_short : ({ stdWidths with one := 40 } : PulseWidths).wf stdParams = false := by decide
theorem test_separator_times_out : ({ stdWidths with sep := 255 } : PulseWidths).wf stdParams = false := by decide
theorem test_train_duration_too_long : Train.wf stdParams [255] = false := by decide
theorem test_train_too_long : Train.wf stdParams (List.replicate 86 0) = false := by decide
theorem test_time_too_wide : Inputs.wf stdParams { (default : Inputs) with nowMs := 2 ^ 32 } = false := by decide
theorem test_all_commands_legal : [Instr.init, .rdhum, .rdtemp, .rsvd].all Instr.wf = true := by decide

/-! ### Decoding: the words of 30_encoding.md R60 -/

theorem test_decode_init : decode 0b00#2 = .init := by decide
theorem test_decode_rdhum : decode 0b01#2 = .rdhum := by decide
theorem test_decode_rdtemp : decode 0b10#2 = .rdtemp := by decide
theorem test_decode_rsvd : decode 0b11#2 = .rsvd := by decide
theorem test_table_words : [0, 1, 2, 3].map (decodeTableWord 8) = [some .init, some .rdhum, some .rdtemp, some .rsvd] := by
  decide
theorem test_extra_bit_refused : decodeBytes [0x04#8] = .error .notTwoBits := by decide
theorem test_no_word_refused : decodeBytes [] = .error .noWord := by decide
theorem test_rows_do_not_overlap :
    opcodeTable.Pairwise (fun a b => a.pattern &&& b.mask ≠ b.pattern &&& a.mask) := by decide

/-! ### Small states -/

/-- The parameters of program P4 of 95_test_vectors.md (its RELEASE_TICKS = 1 at a tick other than 1 µs). -/
def p4 : Config :=
  { model := .simple, threshold := 1, tTickNs := 40000, settleTicks := 2, resetTicks := 2, releaseTicks := 1,
    maxTransitions := 7, timeoutCount := 4, minIntervalMs := 10, legal := by decide }

/-- The defaults with the SCALED layout and THRESHOLD = 40. -/
def std : Config := { toParams := stdParams, legal := test_std_params_legal }

/-- Quiet ports with the line at a level. -/
def line (level : Bool) : Inputs := { rst := false, cmdValid := false, cmdOp := 0, lineIn := level, nowMs := 0 }

/-- A command on the port at a time. -/
def cmd (w : BitVec 2) (t : Nat) : Inputs := { rst := false, cmdValid := true, cmdOp := w, lineIn := true, nowMs := t }

/-- The frame of scenario S2. -/
def s2Frame : Frame := { byte0 := 0x02, byte1 := 0x09, byte2 := 0x01, byte3 := 0x56, byte4 := 0x62 }

/-- Cold and idle with a command on the port. -/
def cold (c : Config) (i : Inputs) : State := { State.reset with cfg := c, inp := i }

/-- Warm and idle: LastReading is the frame of S2, taken at 1000 (V92). -/
def warm (i : Inputs) : State := { cold std i with warm := true, lr := s2Frame, lrTs := 1000 }

/-- In SAMPLE, with the line at a level. -/
def sampling (c : Config) (level : Bool) : State :=
  { cold c (line level) with phase := .sample, cur := true }

/-- In EVAL with n bits of a frame. -/
def evaluating (n : Nat) (f : Frame) : State :=
  { cold std (line true) with phase := .eval, nbits := n, timedOut := true, dur := 255, tidx := 84, buf := f,
                              tsNew := 1300, sel := true }

/-- A question about the state after one step. -/
def after (s : State) (q : State → Bool) : Bool :=
  match step s with
  | .next t => q t
  | .fault _ => false
  | .refused _ => false

/-! ### Commands (95_test_vectors.md section 2.10) -/

/-- V90. -/
theorem test_init : after (warm (cmd 0b00 5000))
    (fun t => t.warm == false && t.rspStatus == .ok && t.rspValue == 0x8000#16 && t.rspValid && t.lr == s2Frame) = true := by
  decide

/-- V92: a hit 300 after LR_TS. -/
theorem test_rdtemp_hit : after (warm (cmd 0b10 1300))
    (fun t => t.rspStatus == .ok && t.rspValue == 0x0156#16 && t.rspValid && t.phase == .idle) = true := by decide

/-- V63 and P1 line 3: 1999 after LR_TS is the last hit. -/
theorem test_rdhum_last_hit : after (warm (cmd 0b01 2999)) (fun t => t.rspValue == 0x0209#16 && t.rspValid) = true := by
  decide

/-- V64: 2000 after LR_TS is the first miss. -/
theorem test_rdhum_first_miss : after (warm (cmd 0b01 3000))
    (fun t => t.phase == .settle && t.sel == false && t.tsNew == 3000 && t.tmr == 0 && !t.rspValid) = true := by decide

/-- V66: rollover. -/
theorem test_rdtemp_rollover : after (warm (cmd 0b10 999)) (fun t => t.phase == .settle && t.sel) = true := by decide

/-- V91. -/
theorem test_rsvd : after (warm (cmd 0b11 6))
    (fun t => t.rspStatus.code == 5#3 && t.rspValue == 0x8000#16 && t.warm && t.phase == .idle) = true := by decide

/-- V96. -/
theorem test_no_command : after { warm (line true) with rspValid := true }
    (fun t => !t.rspValid && t.warm && t.phase == .idle) = true := by decide

/-- V100. -/
theorem test_reset_in_sample :
    after { sampling std true with inp := { line true with rst := true }, warm := true, tidx := 30, rspValue := 0x0209 }
      (fun t => t.phase == .idle && !t.warm && t.rspValue == 0x8000#16 && !t.rspValid) = true := by decide

/-- The first instruction after reset, as the host places it (V102: Cold, so a read runs the pipeline). -/
theorem test_fetch_word_runs : after (State.reset.withFetchWord 8 2) (fun t => t.phase == .settle && t.sel) = true := by
  decide

/-! ### The phases (program P4, tick by tick) -/

/-- P4 tick 2: the last SETTLE tick. -/
theorem test_settle_ends : after { cold p4 (line true) with phase := .settle, tmr := 1 }
    (fun t => t.phase == .resetlow && t.tmr == 0) = true := by decide

/-- P4 tick 5: EnterSample. -/
theorem test_release_enters_sample : after { cold p4 (line true) with phase := .release, tmr := 0, nbits := 9 }
    (fun t => t.phase == .sample && t.cur && t.nbits == 0 && t.tmr == 0) = true := by decide

/-- P4 tick 16: transition 4, d = 2 > 1, is a 1. -/
theorem test_transition_is_a_one : after { sampling p4 false with dur := 2, tidx := 4 }
    (fun t => t.buf.byte0 == 0x01#8 && t.nbits == 1 && t.tidx == 5 && t.dur == 0 && !t.cur) = true := by decide

/-- P4 tick 19: transition 6, d = 1, is a 0, and the cap ends the pass. -/
theorem test_cap_ends_pass :
    after { sampling p4 false with dur := 1, tidx := 6, nbits := 1, buf := { Frame.zero with byte0 := 1 } }
      (fun t => t.phase == .eval && !t.timedOut && t.buf.byte0 == 0x02#8 && t.nbits == 2 && t.tidx == 7) = true := by
  decide

/-- P4b tick 21: the fourth equal sample saturates. -/
theorem test_saturation_ends_pass : after { sampling p4 true with dur := 3, tidx := 6, nbits := 1 }
    (fun t => t.phase == .eval && t.timedOut && t.dur == 4 && t.tidx == 6 && t.nbits == 1) = true := by decide

/-- V25. -/
theorem test_eval_ok : after (evaluating 40 s2Frame)
    (fun t => t.rspStatus == .ok && t.rspValue == 0x0156#16 && t.lr == s2Frame && t.lrTs == 1300 && t.warm) = true := by
  decide

/-- V35. -/
theorem test_eval_checksum : after (evaluating 40 { s2Frame with byte4 := 0x63 })
    (fun t => t.rspStatus.code == 3#3 && t.rspValue == 0x8000#16 && !t.warm && t.phase == .idle) = true := by decide

/-- V27. -/
theorem test_eval_long : after (evaluating 41 s2Frame) (fun t => t.rspStatus.code == 4#3) = true := by decide

/-- V24. -/
theorem test_eval_timeout : after (evaluating 39 s2Frame) (fun t => t.rspStatus.code == 1#3) = true := by decide

/-- P4 tick 20. -/
theorem test_eval_short : after { evaluating 2 Frame.zero with timedOut := false } (fun t => t.rspStatus.code == 2#3) = true := by
  decide

/-! ### Operations (95_test_vectors.md sections 2.1 to 2.5) -/

/-- V13: the fortieth bit. -/
theorem test_shift_last_bit :
    (shiftIn false { cold std (line true) with nbits := 39, buf := { Frame.zero with byte4 := 0x31 } }).buf.byte4 = 0x62#8 := by
  decide

/-- V14: a 41st bit is counted and not stored. -/
theorem test_shift_41st_bit : shiftFrame s2Frame 40 true = s2Frame := by decide

/-- V1, V2: the threshold itself is a 0, one more a 1. -/
theorem test_threshold_is_zero : [bitOf 40 40, bitOf 40 41] = [false, true] := by decide

/-- V42: the sign flag. -/
theorem test_scaled_negative :
    value .scaled true { byte0 := 0x01, byte1 := 0x90, byte2 := 0x80, byte3 := 0x65, byte4 := 0x76 } = 0xFF9B#16 := by decide

/-- V44: the most negative value, and bit 7 of byte0 ignored. -/
theorem test_scaled_extremes :
    [value .scaled false { byte0 := 0xFF, byte1 := 0xFF, byte2 := 0xFF, byte3 := 0xFF, byte4 := 0xFC },
      value .scaled true { byte0 := 0xFF, byte1 := 0xFF, byte2 := 0xFF, byte3 := 0xFF, byte4 := 0xFC }] =
      [0x7FFF#16, 0x8001#16] := by decide

/-- V47: bit 7 of byte2 is a value bit in SIMPLE. -/
theorem test_simple_no_sign :
    value .simple true { byte0 := 0x29, byte1 := 0, byte2 := 0x9B, byte3 := 0, byte4 := 0xC4 } = 0x009B#16 := by decide

/-- V32: carries out of bit 7 are dropped. -/
theorem test_checksum_wraps :
    checksumOk { byte0 := 0xFF, byte1 := 0xFF, byte2 := 0xFF, byte3 := 0xFF, byte4 := 0xFC } = true := by decide

/-- V56: the train, its ending and the length of the pass. -/
theorem test_pass_v56 :
    pass { stdParams with threshold := 1, timeoutCount := 6 }
      (fun n => ([true, true, true, false, false, true, false, false, false, false][n]?).getD true) =
      some { train := [3, 1, 0, 3], ended := .timeout, ticks := 17 } := by decide

/-- P4: the train of its pass decodes to two bits, 1 and 0. -/
theorem test_decode_p4 : decodeTrain 1 [1, 1, 2, 0, 2, 0, 1] = ({ Frame.zero with byte0 := 0x02 }, 2) := by decide

/-! ### Witnesses: concrete states and operands that meet the hypotheses of the obligations -/

/-- `CommandRoundTrip`. -/
theorem witness_CommandRoundTrip : Instr.rdtemp.wf = true := by decide

/-- `InitMakesCold`. -/
theorem witness_InitMakesCold :
    Accepts (warm (cmd 0b00 5)) .init ∧ exec .init (warm (cmd 0b00 5)) = .next (initCommand (warm (cmd 0b00 5))) :=
  ⟨⟨rfl, rfl, rfl, by decide⟩, rfl⟩

/-- `ReadHitAnswersFromLastReading`, at both ends of the interval. -/
theorem witness_ReadHitAnswersFromLastReading :
    (warm (cmd 0b01 1000)).warm = true ∧ (warm (cmd 0b01 1000)).lrTs ≤ sampledTime (warm (cmd 0b01 1000)) ∧
      sampledTime (warm (cmd 0b01 1000)) - 1000 < (warm (cmd 0b01 1000)).cfg.minIntervalMs ∧
      sampledTime (warm (cmd 0b01 2999)) - 1000 < (warm (cmd 0b01 2999)).cfg.minIntervalMs := by decide

/-- `ReadMissStartsRun`: Cold, rolled over, the interval just elapsed. -/
theorem witness_ReadMissStartsRun :
    Misses (cold std (cmd 0b01 0)) ∧ Misses (warm (cmd 0b10 999)) ∧ Misses (warm (cmd 0b10 3000)) :=
  ⟨.inl rfl, .inr (.inl (by decide)), .inr (.inr (by decide))⟩

/-- `StepRunsTheDecodedCommand`. -/
theorem witness_StepRunsTheDecodedCommand :
    Accepts (warm (cmd 0b11 6)) .rsvd ∧
      exec (decode (warm (cmd 0b11 6)).inp.cmdOp) (warm (cmd 0b11 6)) = .next (reservedCommand (warm (cmd 0b11 6))) :=
  ⟨⟨rfl, rfl, rfl, by decide⟩, rfl⟩

/-- `IdleWithoutCommandWaits`. -/
theorem witness_IdleWithoutCommandWaits :
    (warm (line true)).inp.rst = false ∧ (warm (line true)).phase = .idle ∧ (warm (line true)).inp.cmdValid = false := by
  decide

/-- `ResetStepOverrides`: in mid-pass, with a command on the port. -/
theorem witness_ResetStepOverrides : (sampling std true).phase = .sample ∧
    ({ sampling std true with inp := { cmd 0b01 5 with rst := true } } : State).inp.rst = true := by decide

/-- `BusyIgnoresTheCommandPort`. -/
theorem witness_BusyIgnoresTheCommandPort : (sampling std true).phase ≠ .idle := by decide

/-- `LineIsReadOnlyInSample`. -/
theorem witness_LineIsReadOnlyInSample : (evaluating 40 s2Frame).phase ≠ .sample := by decide

/-- `TimeIsReadOnlyAtAcceptance`: INIT does not read the time. -/
theorem witness_TimeIsReadOnlyAtAcceptance : ∀ sel, ¬ Accepts (warm (cmd 0b00 5000)) (readOf sel) := by
  intro sel h
  have := h.2.2.2
  revert this
  cases sel <;> decide

/-- A state of a driven phase of P4 with `TMR` at n. -/
def driven (p : Phase) (n : Nat) : State := { cold p4 (line true) with phase := p, tmr := n }

/-- `DrivenTicksCount`: the first and the last tick of both phases. -/
theorem witness_DrivenTicksCount :
    (driven .settle 0).inp.rst = false ∧ (driven .settle 0).tmr < p4.timerLimit ∧ (driven .settle 0).tmr ≠ p4.settleTicks - 1 ∧
      (driven .settle 1).tmr < p4.timerLimit ∧ (driven .settle 1).tmr = p4.settleTicks - 1 ∧
      (driven .resetlow 0).tmr ≠ p4.resetTicks - 1 ∧ (driven .resetlow 1).tmr = p4.resetTicks - 1 ∧
      (driven .resetlow 1).phase = .resetlow := by decide

/-- `ReleaseEntersSample`: the last tick, and one that is not. -/
theorem witness_ReleaseEntersSample :
    (driven .release 0).inp.rst = false ∧ (driven .release 0).tmr < p4.timerLimit ∧ (driven .release 0).phase = .release ∧
      (driven .release 0).tmr = p4.releaseTicks - 1 ∧ (driven .release 1).tmr < p4.timerLimit ∧
      (driven .release 1).tmr ≠ p4.releaseTicks - 1 := by decide

/-- The run of program P4: RDHUM accepted when Cold, and its 14 line samples. -/
def p4Run : State :=
  { cold p4 (cmd 0b01 0) with
    script := List.replicate 5 (line true) ++
      [true, false, false, true, true, true, false, true, true, true, false, true, true, false].map line ++
      List.replicate 10 (line true) }

/-- The pass of program P4. -/
def p4Pass : PassResult := { train := [1, 1, 2, 0, 2, 0, 1], ended := .cap, ticks := 14 }

theorem p4Run_accepts : Accepts p4Run (readOf false) := ⟨rfl, rfl, rfl, by decide⟩

/-- `DrivenPartTimeline`. -/
theorem witness_DrivenPartTimeline :
    Accepts p4Run (readOf false) ∧ Misses p4Run ∧ NoReset p4Run (passStart p4Run.cfg.toParams) :=
  ⟨p4Run_accepts, .inl rfl, by unfold NoReset; decide⟩

/-- `SampleTickPollsOnce`: the registers at the ends of their ranges, and each of the four cases. -/
theorem witness_SampleTickPollsOnce :
    let a := { sampling p4 true with dur := 4, tidx := 7, nbits := 41 }
    let b := { sampling p4 true with dur := 3, tidx := 6 }
    let c := { sampling p4 false with dur := 0, tidx := 5 }
    a.inp.rst = false ∧ a.phase = .sample ∧ a.dur ≤ p4.timeoutCount ∧ a.tidx ≤ p4.maxTransitions ∧ a.nbits ≤ 41 ∧
      a.inp.lineIn = a.cur ∧ a.dur + 1 ≠ p4.timeoutCount ∧ b.inp.lineIn = b.cur ∧ b.dur + 1 = p4.timeoutCount ∧
      c.inp.lineIn ≠ c.cur ∧ c.tidx + 1 ≠ p4.maxTransitions ∧ b.tidx + 1 = p4.maxTransitions := by decide

/-- `TransitionIsClassified`: each clause at its boundary (V1, V2, V7, V8). -/
theorem witness_TransitionIsClassified :
    (4 ≤ 4 ∧ 4 % 2 = 0 ∧ std.threshold < 41) ∧ (4 ≤ 4 ∧ 4 % 2 = 0 ∧ 40 ≤ std.threshold) ∧ 3 < 4 ∧ 83 % 2 = 1 := by decide

/-- `ShiftInStoresOneBit`: the last stored bit and the first that is not. -/
theorem witness_ShiftInStoresOneBit : (evaluating 39 s2Frame).nbits < 40 ∧ 40 ≤ (evaluating 40 s2Frame).nbits := by decide

/-- `StreamedDecoderIsDecode`. -/
theorem witness_StreamedDecoderIsDecode : (sampling p4 true).buf = Frame.zero ∧ (sampling p4 true).nbits = 0 := by decide

/-- `TrainLengthGivesBitCount` and `WrongLengthTrainsFail`: a train of each boundary length. -/
theorem witness_TrainLengthGivesBitCount :
    (List.replicate 4 0).length ≤ 4 ∧ 5 ≤ (List.replicate 5 0).length ∧ (List.replicate 82 0).length ≤ 82 ∧
      (List.replicate 83 0).length = 83 ∧ (List.replicate 84 0).length = 84 ∧ 85 ≤ (List.replicate 85 0).length := by
  decide

/-- `WrongLengthTrainsFail`. -/
theorem witness_WrongLengthTrainsFail :
    ({ train := List.replicate 82 0, ended := .timeout, ticks := 337 } : PassResult).train.length ≤ 82 ∧
      85 ≤ ({ train := List.replicate 85 0, ended := .cap, ticks := 85 } : PassResult).train.length ∧
      ({ train := List.replicate 83 0, ended := .timeout, ticks := 338 } : PassResult).train.length = 83 := by decide

/-- The first 44 entries of a train of long pulses: twenty bits, the third byte half full (R44). -/
theorem longPulses_first44 : decodeFrom 40 (Frame.zero, 0) 0 (List.replicate 44 41) =
    ({ byte0 := 0xFF, byte1 := 0xFF, byte2 := 0x0F, byte3 := 0, byte4 := 0 }, 20) := by decide

/-- `FrameBitsAreInOrder`: the shortest train that gives 40 bits. -/
theorem witness_FrameBitsAreInOrder : 40 ≤ (decodeTrain 40 (List.replicate 44 41 ++ List.replicate 39 41)).2 := by
  rw [decodeTrain, decodeFrom_append, longPulses_first44]
  decide

/-- `DecodeOfEncodeIsTheFrame`. -/
theorem witness_DecodeOfEncodeIsTheFrame : stdWidths.wf stdParams = true := by decide

/-- `PassMeasuresTheTrain`: a train shorter than the cap and one of the cap's length. -/
theorem witness_PassMeasuresTheTrain :
    (∀ d ∈ [2, 2, 0, 0, 2, 0], d < p4.timeoutCount) ∧ [2, 2, 0, 0, 2, 0].length < p4.maxTransitions ∧
      (∀ d ∈ p4Pass.train, d < p4.timeoutCount) ∧ p4Pass.train.length = p4.maxTransitions := by decide

/-- `PassCornerCases`. -/
theorem witness_PassCornerCases : 2 ≤ p4.maxTransitions := by decide

/-- The first SAMPLE state of program P4. -/
def p4Entry : State :=
  { sampling p4 true with
    script := [false, false, true, true, true, false, true, true, true, false, true, true, false].map line }

/-- `SamplePhaseIsPass`. -/
theorem witness_SamplePhaseIsPass :
    p4Entry.phase = .sample ∧ p4Entry.cur = true ∧ p4Entry.dur = 0 ∧ p4Entry.tidx = 0 ∧ p4Entry.nbits = 0 ∧
      p4Entry.timedOut = false ∧ p4Entry.buf = Frame.zero ∧
      pass p4Entry.cfg.toParams (waveFrom p4Entry 0) = some p4Pass ∧ NoReset p4Entry p4Pass.ticks :=
  ⟨rfl, rfl, rfl, rfl, rfl, rfl, rfl, by decide, by unfold NoReset; decide⟩

/-- `EvalSuccessCommits`. -/
theorem witness_EvalSuccessCommits :
    let s := evaluating 40 s2Frame
    s.inp.rst = false ∧ s.phase = .eval ∧ s.nbits = 40 ∧
      s.buf.byte4.toNat = (s.buf.byte0.toNat + s.buf.byte1.toNat + s.buf.byte2.toNat + s.buf.byte3.toNat) % 256 := by
  decide

/-- `EvalFailureReportsOneKind`: each of the four failures. -/
theorem witness_EvalFailureReportsOneKind :
    (evaluating 39 s2Frame).inp.rst = false ∧ (evaluating 39 s2Frame).phase = .eval ∧
      (evaluating 39 s2Frame).nbits < 40 ∧ (evaluating 39 s2Frame).timedOut = true ∧
      ({ evaluating 39 s2Frame with timedOut := false } : State).timedOut = false ∧
      (evaluating 41 s2Frame).nbits = 41 ∧ (evaluating 40 { s2Frame with byte4 := 0x63 }).nbits = 40 ∧
      (0x63#8).toNat ≠ (s2Frame.byte0.toNat + s2Frame.byte1.toNat + s2Frame.byte2.toNat + s2Frame.byte3.toNat) % 256 := by
  decide

/-- `ScaledValuesAreTenths`: the negative zero of V43. -/
theorem witness_ScaledValuesAreTenths :
    ({ Frame.zero with byte2 := 0x80, byte4 := 0x80 } : Frame).byte2 = 0x80#8 ∧
      ({ Frame.zero with byte2 := 0x80, byte4 := 0x80 } : Frame).byte3 = 0 := by decide

/-- Program P4's run at its first tick meets the invariant. -/
theorem p4Run_inv : BlockInv p4Run where
  tmrFits := by decide
  tidxFits := by decide
  nbitsFits := by decide
  durFits := by decide
  lrTsFits := by decide
  tsNewFits := by decide
  warmFrame := by decide
  response := .inl rfl
  driven := by rintro (h | h | h) <;> cases h
  sampling := by intro h; cases h
  ended := by intro h; cases h

/-- P4's first SAMPLE state meets the invariant. -/
theorem p4Entry_inv : BlockInv p4Entry where
  tmrFits := by decide
  tidxFits := by decide
  nbitsFits := by decide
  durFits := by decide
  lrTsFits := by decide
  tsNewFits := by decide
  warmFrame := by decide
  response := .inl rfl
  driven := by rintro (h | h | h) <;> cases h
  sampling := fun _ => ⟨by decide, by decide, rfl, rfl, rfl, partialFrame_zero _⟩
  ended := by intro h; cases h

/-- `StepKeepsTheInvariant`: a state of the invariant, in mid-pass, that steps. -/
theorem witness_StepKeepsTheInvariant : BlockInv p4Entry ∧ step p4Entry = .next (advanceInputs (countDur p4Entry)) :=
  ⟨p4Entry_inv, rfl⟩

/-- `InvariantStatesStep`. -/
theorem witness_InvariantStatesStep : BlockInv p4Run := p4Run_inv

/-- `StepStopsOnlyOutOfRange`: each of the four faults, in a state no run reaches. -/
theorem witness_StepStopsOnlyOutOfRange :
    step (driven .settle 2) = .fault .tmrOutOfRange ∧
      step { sampling p4 true with dur := 5 } = .fault .durOutOfRange ∧
      step { sampling p4 true with tidx := 8 } = .fault .tidxOutOfRange ∧
      step (evaluating 42 s2Frame) = .fault .nbitsOutOfRange := ⟨rfl, rfl, rfl, rfl⟩

/-- `ConfigurationIsConstant`, `ResponseValidMarksCompletion`: a step that answers a next state. -/
theorem witness_ConfigurationIsConstant :
    step p4Run = .next (advanceInputs (startRun false (sampledTime p4Run) p4Run)) := rfl

/-- `ResponseValidMarksCompletion`: a step that completes a command. -/
theorem witness_ResponseValidMarksCompletion :
    step (warm (cmd 0b00 5)) = .next (advanceInputs (initCommand (warm (cmd 0b00 5)))) ∧ Completes (warm (cmd 0b00 5)) :=
  ⟨rfl, rfl, .inr ⟨rfl, rfl, .inl (by decide)⟩⟩

/-- `ResponseHolds`: a step that completes nothing. -/
theorem witness_ResponseHolds :
    step p4Entry = .next (advanceInputs (countDur p4Entry)) ∧ p4Entry.inp.rst = false ∧ ¬ Completes p4Entry := by
  refine ⟨rfl, rfl, ?_⟩
  rintro ⟨-, h | ⟨h, -⟩⟩ <;> cases h

/-- `OnlyCommitWritesLastReading`: the step that commits. -/
theorem witness_OnlyCommitWritesLastReading :
    (evaluating 40 s2Frame).inp.rst = false ∧
      step (evaluating 40 s2Frame) = .next (advanceInputs { succeed (evaluating 40 s2Frame) with phase := .idle }) :=
  ⟨rfl, rfl⟩

/-- `PhaseAdvancesInOrder`: a step out of each phase. -/
theorem witness_PhaseAdvancesInOrder :
    p4Run.inp.rst = false ∧ after p4Run (fun t => t.phase == .settle) = true ∧
      after (driven .settle 1) (fun t => t.phase == .resetlow) = true ∧
      after (driven .resetlow 1) (fun t => t.phase == .release) = true ∧
      after (driven .release 0) (fun t => t.phase == .sample) = true ∧
      after { sampling p4 true with dur := 3 } (fun t => t.phase == .eval) = true ∧
      after (evaluating 40 s2Frame) (fun t => t.phase == .idle) = true := by decide

/-- P4's first state with other values in every register that R38 leaves unspecified. -/
def p4RunOther : State :=
  { p4Run with tmr := 1, tidx := 9, nbits := 50, dur := 200, cur := true, timedOut := true, sel := true, buf := s2Frame,
               lr := s2Frame, lrTs := 3, tsNew := 7 }

/-- `UnspecifiedRegistersAreNeverRead`. -/
theorem witness_UnspecifiedRegistersAreNeverRead : SameToTheBlock p4Run p4RunOther ∧
    runTicks 1 p4Run = .next (advanceInputs (startRun false (sampledTime p4Run) p4Run)) := by
  refine ⟨⟨rfl, rfl, rfl, rfl, rfl, rfl, rfl, rfl, rfl, ?_, ?_, ?_, ?_, ?_⟩, rfl⟩
  · intro h; cases h
  · intro h; exact absurd rfl h
  · rintro (h | h | h) <;> cases h
  · intro h; cases h
  · intro h; cases h

/-- `RejectedBitsAreUnobservable`. -/
theorem witness_RejectedBitsAreUnobservable :
    let s := evaluating 40 { s2Frame with byte4 := 0x63 }
    s.inp.rst = false ∧ s.phase = .eval ∧ verdict s.nbits s.timedOut s.buf = some .checksum ∧
      verdict s.nbits s.timedOut { s2Frame with byte4 := 0x64 } = some .checksum ∧
      step s = .next (advanceInputs { fail .checksum s with phase := .idle }) := by
  refine ⟨rfl, rfl, by decide, by decide, rfl⟩

/-- Two reads at consecutive ticks, both within the interval. -/
def twoHits : State := { warm (cmd 0b10 1300) with script := [cmd 0b10 2999] }

/-- `ConsecutiveHitsAgree`. -/
theorem witness_ConsecutiveHitsAgree :
    let s1 := advanceInputs (cacheHit true twoHits)
    Accepts twoHits (readOf true) ∧ hit twoHits (sampledTime twoHits) = true ∧ step twoHits = .next s1 ∧
      Accepts s1 (readOf true) ∧ hit s1 (sampledTime s1) = true ∧ step s1 = .next (advanceInputs (cacheHit true s1)) :=
  ⟨⟨rfl, rfl, rfl, by decide⟩, by decide, rfl, ⟨rfl, rfl, rfl, by decide⟩, by decide, rfl⟩

/-- `HitStaysFalseAsTimeMovesOn`: Warm with the interval just elapsed, and Cold with the time below `LR_TS`. -/
theorem witness_HitStaysFalseAsTimeMovesOn :
    let w := warm (line true)
    let c := { warm (line true) with warm := false }
    (w.lrTs ≤ 3000 ∧ hit w 3000 = false ∧ 3000 ≤ 3700) ∧ (c.warm = false ∧ c.lrTs > 999 ∧ hit c 999 = false ∧ 999 ≤ 1000) ∧
      (warm (line false)).lrTs = w.lrTs ∧ (warm (line false)).warm = w.warm ∧ (warm (line false)).cfg = w.cfg := by decide

/-- `ElaborationRefusesBadConfigurations`: a bad tag, a legal request, and one with a THRESHOLD one too high. -/
theorem witness_ElaborationRefusesBadConfigurations :
    2 ≤ ({ modelTag := 2, threshold := 0 } : Request).modelTag ∧ modelOfTag 1 = some .scaled ∧
      253 + 2 ≤ ({ modelTag := 1, threshold := 253 } : Request).timeoutCount ∧
      ¬ (254 + 2 ≤ ({ modelTag := 1, threshold := 254 } : Request).timeoutCount) := by decide

/-- `ReadRunCompletes`: the run of program P4. -/
theorem witness_ReadRunCompletes :
    Accepts p4Run (readOf false) ∧ Misses p4Run ∧
      pass p4Run.cfg.toParams (waveFrom p4Run (passStart p4Run.cfg.toParams)) = some p4Pass ∧
      NoReset p4Run (passStart p4Run.cfg.toParams + p4Pass.ticks + 1) :=
  ⟨p4Run_accepts, .inl rfl, by decide, by unfold NoReset; decide⟩

/-- `NoHitAfterFailedRun`: program P4 is Cold and its run ends in `SHORT_FRAME`. -/
theorem witness_NoHitAfterFailedRun :
    Accepts p4Run (readOf false) ∧ Misses p4Run ∧ p4Run.warm = false ∧
      pass p4Run.cfg.toParams (waveFrom p4Run (passStart p4Run.cfg.toParams)) = some p4Pass ∧
      trainVerdict p4Run.cfg.threshold p4Pass = some .shortFrame ∧
      NoReset p4Run (passStart p4Run.cfg.toParams + p4Pass.ticks + 1) :=
  ⟨p4Run_accepts, .inl rfl, rfl, by decide, by decide, by unfold NoReset; decide⟩

/-- `BlockBecomesReady`: P4's run, quiet for as long as the bound asks. -/
theorem witness_BlockBecomesReady :
    let s := { p4Run with script := List.replicate 40 (line true) }
    BlockInv s ∧ NoReset s (s.cfg.settleTicks + s.cfg.resetTicks + s.cfg.releaseTicks +
      s.cfg.maxTransitions * s.cfg.timeoutCount + 1) :=
  ⟨⟨p4Run_inv.1, p4Run_inv.2, p4Run_inv.3, p4Run_inv.4, p4Run_inv.5, p4Run_inv.6, p4Run_inv.7, p4Run_inv.8,
    p4Run_inv.9, p4Run_inv.10, p4Run_inv.11⟩, by unfold NoReset; decide⟩

/-- Small parameters with the default cap. -/
def shortPulses : Config :=
  { model := .scaled, threshold := 0, tTickNs := 7, settleTicks := 1, resetTicks := 1, releaseTicks := 1,
    timeoutCount := 2, legal := by decide }

/-- The shortest legal symbols for those parameters. -/
def shortWidths : PulseWidths := { lead0 := 0, lead1 := 0, lead2 := 0, lead3 := 0, sep := 0, zero := 0, one := 1 }

/-- RDHUM accepted when Cold, on a line that shows the train of S2's frame from the first SAMPLE tick on. -/
def encodedRun : State :=
  { cold shortPulses (cmd 0b01 1000) with
    script := List.replicate 3 (line true) ++ (trainLevels true (encodeTrain shortWidths s2Frame)).map line ++
      List.replicate 4 (line true) }

/-- `EncodedFrameIsRead`. -/
theorem witness_EncodedFrameIsRead :
    let P := trainTicks (encodeTrain shortWidths s2Frame) + encodedRun.cfg.timeoutCount
    Accepts encodedRun (readOf false) ∧ Misses encodedRun ∧ shortWidths.wf encodedRun.cfg.toParams = true ∧
      84 < encodedRun.cfg.maxTransitions ∧
      (∀ n < P, waveFrom encodedRun (passStart encodedRun.cfg.toParams) n =
        waveOfTrain (encodeTrain shortWidths s2Frame) n) ∧
      NoReset encodedRun (passStart encodedRun.cfg.toParams + P + 1) :=
  ⟨⟨rfl, rfl, rfl, by decide⟩, .inl rfl, by decide, by decide, by decide, by unfold NoReset; decide⟩

end Sys2Proof.Tests
end

section
/-! PROOFS. The state of the block (10_state.md): a step is what the inversion lemma says and nothing else, it stops in three
cases, it keeps the invariant, it reads of the input ports only what R32 to R36 say, and it reads no register before a rule
has written it. -/

namespace Sys2Proof.Machine

variable {s t u s' : State} {f : Fault}

/-! ### What a tick does, in both directions -/

theorem exec_readOf (sel : Bool) (s : State) : exec (readOf sel) s = .next (readCommand sel s) := by
  cases sel <;> rfl

theorem tick_of_accepts {i : Instr} (h : Accepts s i) : tick s = exec i s := by
  obtain ⟨hr, hc, hp, hi⟩ := h
  rw [tick_idle hr hp, idleTick, if_pos hc, hi]

theorem not_tmrStuck (h : s.tmr < s.cfg.timerLimit) : ¬ tmrStuck s = true := by
  simpa [tmrStuck] using h

/-- The converse of `tick_cases`: what the inversion lemma lists is what the tick does. -/
theorem tick_of_case (h : TickCase s u) : tick s = .next u := by
  cases h with
  | reset hr => exact tick_rst hr
  | wait hr hp hc => rw [tick_idle hr hp, idleTick, hc]; rfl
  | init ha => exact tick_of_accepts ha
  | reserved ha => exact tick_of_accepts ha
  | hit sel ha hh => rw [tick_of_accepts ha, exec_readOf, readCommand, hh]; rfl
  | miss sel ha hh => rw [tick_of_accepts ha, exec_readOf, readCommand, hh]; rfl
  | count hr hp hl ht =>
    obtain hp | hp | hp := hp <;> rw [hp] at ht
    · rw [tick_settle hr hp, settleTick, if_neg (not_tmrStuck hl)]; exact if_neg ht
    · rw [tick_resetlow hr hp, resetlowTick, if_neg (not_tmrStuck hl)]; exact if_neg ht
    · rw [tick_release hr hp, releaseTick, if_neg (not_tmrStuck hl)]; exact if_neg ht
  | toResetlow hr hp hl ht => rw [tick_settle hr hp, settleTick, if_neg (not_tmrStuck hl), if_pos ht]
  | toRelease hr hp hl ht => rw [tick_resetlow hr hp, resetlowTick, if_neg (not_tmrStuck hl), if_pos ht]
  | toSample hr hp hl ht => rw [tick_release hr hp, releaseTick, if_neg (not_tmrStuck hl), if_pos ht]
  | countLevel hr hp hn hs hd => rw [tick_sample hr hp]; simp only [sampleTick, hn, if_pos hs, if_neg hd]
  | timeout hr hp hn hs hd => rw [tick_sample hr hp]; simp only [sampleTick, hn, if_pos hs, if_pos hd]
  | transition hr hp hn hs hm => rw [tick_sample hr hp]; simp only [sampleTick, hn, if_neg hs, if_neg hm]
  | cap hr hp hn hs hm => rw [tick_sample hr hp]; simp only [sampleTick, hn, if_neg hs, if_pos hm]
  | success hr hp hv =>
    have hn : ¬ evalStuck s = true := by simp [evalStuck, ((verdict_eq_none_iff _ _ _).1 hv).1]
    rw [tick_eval hr hp, evalTick, if_neg hn, hv]
  | failure k hr hp hn hv =>
    have hn : ¬ evalStuck s = true := by simpa [evalStuck] using hn
    rw [tick_eval hr hp, evalTick, if_neg hn, hv]

theorem step_of_case (h : TickCase s u) : step s = .next (advanceInputs u) := step_of_tick (tick_of_case h)

/-- Every way a tick can stop (93 U10, log 6). -/
inductive FaultCase (s : State) : Fault → Prop
  | timer (hr : s.inp.rst = false) (hp : Driven s.phase) (hl : s.cfg.timerLimit ≤ s.tmr) : FaultCase s .tmrOutOfRange
  | sampler (f : Fault) (hr : s.inp.rst = false) (hp : s.phase = .sample) (hn : sampleStuck s = some f) : FaultCase s f
  | bits (hr : s.inp.rst = false) (hp : s.phase = .eval) (hn : 41 < s.nbits) : FaultCase s .nbitsOutOfRange

theorem tick_of_fault (h : FaultCase s f) : tick s = .fault f := by
  cases h with
  | timer hr hp hl =>
    have hs : tmrStuck s = true := decide_eq_true hl
    obtain hp | hp | hp := hp
    · rw [tick_settle hr hp, settleTick, if_pos hs]
    · rw [tick_resetlow hr hp, resetlowTick, if_pos hs]
    · rw [tick_release hr hp, releaseTick, if_pos hs]
  | sampler f hr hp hn => rw [tick_sample hr hp, sampleTick, hn]
  | bits hr hp hn =>
    have hs : evalStuck s = true := decide_eq_true hn
    rw [tick_eval hr hp, evalTick, if_pos hs]

theorem step_of_fault (h : FaultCase s f) : step s = .fault f := by
  rw [step, tick_of_fault h]; rfl

/-- In an accepting state the tick is one of the four commands' cases. -/
theorem tickCase_of_command (hr : s.inp.rst = false) (hp : s.phase = .idle) (hc : s.inp.cmdValid = true) :
    ∃ u, TickCase s u := by
  have ha : Accepts s (decode s.inp.cmdOp) := ⟨hr, hc, hp, rfl⟩
  rcases exec_cases (decode s.inp.cmdOp) s with ⟨hi, -⟩ | ⟨hi, -⟩ | ⟨sel, hi, hh, -⟩ | ⟨sel, hi, hh, -⟩ <;> rw [hi] at ha
  · exact ⟨_, .init ha⟩
  · exact ⟨_, .reserved ha⟩
  · exact ⟨_, .hit sel ha hh⟩
  · exact ⟨_, .miss sel ha hh⟩

theorem driven_tickCase_or_faultCase (hr : s.inp.rst = false) (hp : Driven s.phase) :
    (∃ u, TickCase s u) ∨ ∃ f, FaultCase s f := by
  rcases Nat.lt_or_ge s.tmr s.cfg.timerLimit with hl | hl
  · by_cases ht : s.tmr = drivenTicks s.cfg.toParams s.phase - 1
    · obtain hp | hp | hp := hp <;> rw [hp] at ht
      · exact .inl ⟨_, .toResetlow hr hp hl ht⟩
      · exact .inl ⟨_, .toRelease hr hp hl ht⟩
      · exact .inl ⟨_, .toSample hr hp hl ht⟩
    · exact .inl ⟨_, .count hr hp hl ht⟩
  · exact .inr ⟨_, .timer hr hp hl⟩

/-- The two lists of cases are complete: a tick is in one of them. -/
theorem tickCase_or_faultCase (s : State) : (∃ u, TickCase s u) ∨ ∃ f, FaultCase s f := by
  cases hr : s.inp.rst with
  | true => exact .inl ⟨_, .reset hr⟩
  | false =>
    cases hp : s.phase with
    | idle =>
      cases hc : s.inp.cmdValid with
      | false => exact .inl ⟨_, .wait hr hp hc⟩
      | true => exact .inl (tickCase_of_command hr hp hc)
    | settle => exact driven_tickCase_or_faultCase hr (.inl hp)
    | resetlow => exact driven_tickCase_or_faultCase hr (.inr (.inl hp))
    | release => exact driven_tickCase_or_faultCase hr (.inr (.inr hp))
    | sample =>
      cases hn : sampleStuck s with
      | some f => exact .inr ⟨f, .sampler f hr hp hn⟩
      | none =>
        by_cases hs : s.inp.lineIn = s.cur
        · by_cases hd : s.dur + 1 = s.cfg.timeoutCount
          · exact .inl ⟨_, .timeout hr hp hn hs hd⟩
          · exact .inl ⟨_, .countLevel hr hp hn hs hd⟩
        · by_cases hm : s.tidx + 1 = s.cfg.maxTransitions
          · exact .inl ⟨_, .cap hr hp hn hs hm⟩
          · exact .inl ⟨_, .transition hr hp hn hs hm⟩
    | eval =>
      rcases Nat.lt_or_ge 41 s.nbits with hn | hn
      · exact .inr ⟨_, .bits hr hp hn⟩
      · cases hv : verdict s.nbits s.timedOut s.buf with
        | none => exact .inl ⟨_, .success hr hp hv⟩
        | some k => exact .inl ⟨_, .failure k hr hp hn hv⟩

/-- The inversion lemma for a step that stops. -/
theorem faultCase_of_step (h : step s = .fault f) : FaultCase s f := by
  rcases tickCase_or_faultCase s with ⟨u, hu⟩ | ⟨g, hg⟩
  · rw [step_of_case hu] at h; cases h
  · rw [step_of_fault hg] at h; cases h; exact hg

theorem step_ne_refused (s : State) (r : Refusal) : step s ≠ .refused r := by
  rcases tickCase_or_faultCase s with ⟨u, hu⟩ | ⟨g, hg⟩
  · rw [step_of_case hu]; exact nofun
  · rw [step_of_fault hg]; exact nofun

theorem sampleStuck_eq_some (h : sampleStuck s = some f) :
    (f = .durOutOfRange ∧ s.cfg.timeoutCount < s.dur) ∨ (f = .tidxOutOfRange ∧ s.cfg.maxTransitions < s.tidx) ∨
      (f = .nbitsOutOfRange ∧ 41 < s.nbits) := by
  unfold sampleStuck at h
  split at h
  · next hd => cases h; exact .inl ⟨rfl, hd⟩
  · split at h
    · next ht => cases h; exact .inr (.inl ⟨rfl, ht⟩)
    · split at h
      · next hn => cases h; exact .inr (.inr ⟨rfl, hn⟩)
      · cases h

/-! ### The Bit Decoder's two registers -/

theorem decodeTransition_eq (i d : Nat) (s : State) : decodeTransition i d s =
    { s with buf := (decodeTransition i d s).buf, nbits := (decodeTransition i d s).nbits } := by
  unfold decodeTransition; split <;> rfl

/-- All the writes of a completed transition (R94, R108). -/
theorem completeTransition_eq (s : State) : completeTransition s =
    { s with buf := (decodeTransition s.tidx s.dur s).buf, nbits := (decodeTransition s.tidx s.dur s).nbits,
             cur := s.inp.lineIn, dur := 0, tidx := s.tidx + 1, rspValid := false } := by
  rw [completeTransition, decodeTransition_eq]

/-- What the Bit Decoder writes depends on THRESHOLD, `BUF` and `NBITS` alone (R106, R108). -/
theorem decodeTransition_congr (i d : Nat) (hc : s.cfg = t.cfg) (hb : s.buf = t.buf) (hn : s.nbits = t.nbits) :
    (decodeTransition i d s).buf = (decodeTransition i d t).buf ∧
      (decodeTransition i d s).nbits = (decodeTransition i d t).nbits := by
  apply Prod.mk.inj
  rw [← decodeEntry_eq, ← decodeEntry_eq, hc, hb, hn]

theorem decodeTransition_nbits_eq_dataCount {i : Nat} (d : Nat) (hn : s.nbits = dataCount i) :
    (decodeTransition i d s).nbits = dataCount (i + 1) := by
  rw [← decodeEntry_nbits s.cfg.threshold i d s.buf, ← hn, decodeEntry_eq]

theorem decodeTransition_partialFrame (i d : Nat) (hn : s.nbits ≤ 41) (h : PartialFrame s.nbits s.buf) :
    PartialFrame (decodeTransition i d s).nbits (decodeTransition i d s).buf := by
  unfold decodeTransition
  split
  · exact partialFrame_shift _ hn h
  · exact h

/-! ### The invariant -/

theorem not_driven {p : Phase} (h : p = .idle ∨ p = .sample ∨ p = .eval) : ¬ Driven p := by
  obtain rfl | rfl | rfl := h <;> rintro (h | h | h) <;> cases h

theorem drivenTicks_le_limit (c : Config) (p : Phase) : drivenTicks c.toParams p ≤ c.timerLimit := by
  cases p with
  | settle => exact c.settle_le_limit
  | resetlow => exact c.reset_le_limit
  | release => exact c.release_le_limit
  | idle | sample | eval => exact Nat.zero_le _

theorem drivenTicks_pos (c : Config) {p : Phase} (hp : Driven p) : 0 < drivenTicks c.toParams p := by
  obtain rfl | rfl | rfl := hp
  · exact c.settle_pos
  · exact c.reset_pos
  · exact c.release_pos

theorem sampledTime_lt (s : State) : sampledTime s < 2 ^ s.cfg.tsWidth := Nat.mod_lt _ (Nat.two_pow_pos _)

/-- The level after a transition against the index after it (R19). -/
theorem level_of_transition {a b : Bool} {n : Nat} (hb : b = (n % 2 == 0)) (h : a ≠ b) : a = ((n + 1) % 2 == 0) := by
  have ha : a = !b := Bool.eq_not_of_ne h
  rcases Nat.mod_two_eq_zero_or_one n with hn | hn <;> simp [ha, hb, hn, Nat.add_mod]

theorem BlockInv.after_reset : BlockInv (resetRegisters s) where
  tmrFits := Nat.mod_lt _ (Nat.two_pow_pos _)
  tidxFits := Nat.mod_lt _ (by decide)
  nbitsFits := Nat.mod_lt _ (by decide)
  durFits := Nat.mod_lt _ (by decide)
  lrTsFits := Nat.mod_lt _ (Nat.two_pow_pos _)
  tsNewFits := Nat.mod_lt _ (Nat.two_pow_pos _)
  warmFrame := nofun
  response := .inl rfl
  driven hd := absurd hd (not_driven (.inl rfl))
  sampling := nofun
  ended := nofun

theorem BlockInv.after_enterDriven {p : Phase} (hi : BlockInv s) (hp : Driven p) : BlockInv (enterDriven p s) :=
  { hi with
    tmrFits := Nat.two_pow_pos _
    driven := fun _ => drivenTicks_pos _ hp
    sampling := fun hs => absurd hp (not_driven (.inr (.inl hs)))
    ended := fun he => absurd hp (not_driven (.inr (.inr he))) }

/-- Counting inside a driven phase keeps `TMR` below the phase's length, since its last tick does not count. -/
theorem BlockInv.after_countTmr (hi : BlockInv s) (hp : Driven s.phase)
    (ht : s.tmr ≠ drivenTicks s.cfg.toParams s.phase - 1) : BlockInv (countTmr s) := by
  have hlt : s.tmr + 1 < drivenTicks s.cfg.toParams s.phase := by
    have := hi.driven hp
    omega
  exact { hi with
    tmrFits := s.cfg.lt_timerWidth (hlt.trans_le (drivenTicks_le_limit _ _))
    driven := fun _ => hlt }

/-- What a completed transition leaves in the sampler's and decoder's registers (R19, R39, R44). -/
theorem BlockInv.transition_counts (hi : BlockInv s) (hp : s.phase = .sample) (hl : s.inp.lineIn ≠ s.cur) :
    (completeTransition s).nbits = dataCount (s.tidx + 1) ∧ s.inp.lineIn = ((s.tidx + 1) % 2 == 0) ∧
      PartialFrame (completeTransition s).nbits (completeTransition s).buf := by
  obtain ⟨-, -, hn, hcur, -, hf⟩ := hi.sampling hp
  exact ⟨decodeTransition_nbits_eq_dataCount s.dur hn, level_of_transition hcur hl,
    decodeTransition_partialFrame _ _ (hn ▸ dataCount_le _) hf⟩

theorem dataCount_lt (n : Nat) : dataCount n < 2 ^ 6 := (dataCount_le n).trans_lt (by decide)

theorem BlockInv.after_transition (hi : BlockInv s) (hp : s.phase = .sample) (hl : s.inp.lineIn ≠ s.cur)
    (hm : s.tidx + 1 ≠ s.cfg.maxTransitions) : BlockInv (completeTransition s) := by
  obtain ⟨-, ht, -, -, hto, -⟩ := hi.sampling hp
  obtain ⟨hn, hcur, hf⟩ := hi.transition_counts hp hl
  have ht' : s.tidx + 1 < s.cfg.maxTransitions := by omega
  have hmax := s.cfg.maxTransitions_le
  have htime := s.cfg.timeout_ge
  rw [completeTransition_eq] at hn hf ⊢
  exact { hi with
    tidxFits := by show s.tidx + 1 < 2 ^ 7; omega
    nbitsFits := hn ▸ dataCount_lt _
    durFits := Nat.two_pow_pos _
    driven := fun hd => absurd hd (not_driven (.inr (.inl hp)))
    sampling := fun _ => ⟨by show 0 < s.cfg.timeoutCount; omega, ht', hn, hcur, hto, hf⟩
    ended := fun he => by cases hp.symm.trans he }

theorem BlockInv.after_cap (hi : BlockInv s) (hp : s.phase = .sample) (hl : s.inp.lineIn ≠ s.cur)
    (hm : s.tidx + 1 = s.cfg.maxTransitions) : BlockInv (endByCap (completeTransition s)) := by
  obtain ⟨hn, -, hf⟩ := hi.transition_counts hp hl
  have hmax := s.cfg.maxTransitions_le
  rw [completeTransition_eq] at hn hf ⊢
  exact { hi with
    tidxFits := by show s.tidx + 1 < 2 ^ 7; omega
    nbitsFits := hn ▸ dataCount_lt _
    durFits := Nat.two_pow_pos _
    driven := fun hd => absurd hd (not_driven (.inr (.inr rfl)))
    sampling := nofun
    ended := fun _ => ⟨hn, hf, .inr ⟨rfl, rfl, hm⟩⟩ }

/-- A tick of the registers keeps the invariant. -/
theorem BlockInv.of_tickCase (hi : BlockInv s) (h : TickCase s u) : BlockInv u := by
  cases h with
  | reset hr => exact .after_reset
  | wait hr hp hc => exact { hi with }
  | init ha => exact { hi with warmFrame := nofun, response := .inl rfl }
  | reserved ha => exact { hi with response := .inl rfl }
  | hit sel ha hh =>
    obtain ⟨hw, -⟩ := (hit_eq_true_iff _ _).1 hh
    exact { hi with response := .inr ⟨rfl, sel, s.lr, hi.warmFrame hw, rfl⟩ }
  | miss sel ha hh =>
    exact { hi with
      tmrFits := Nat.two_pow_pos _
      tsNewFits := sampledTime_lt s
      driven := drivenTicks_pos _
      sampling := nofun
      ended := nofun }
  | count hr hp hl ht => exact hi.after_countTmr hp ht
  | toResetlow hr hp hl ht => exact hi.after_enterDriven (.inr (.inl rfl))
  | toRelease hr hp hl ht => exact hi.after_enterDriven (.inr (.inr rfl))
  | toSample hr hp hl ht =>
    exact { hi with
      tidxFits := Nat.two_pow_pos _
      nbitsFits := Nat.two_pow_pos _
      durFits := Nat.two_pow_pos _
      driven := fun hd => absurd hd (not_driven (.inr (.inl rfl)))
      sampling := fun _ => ⟨Nat.zero_lt_of_lt s.cfg.timeout_ge, s.cfg.maxTransitions_pos, rfl, rfl, rfl, partialFrame_zero _⟩
      ended := nofun }
  | countLevel hr hp hn hs hd =>
    obtain ⟨hdur, hrest⟩ := hi.sampling hp
    have hdur' : s.dur + 1 < s.cfg.timeoutCount := by omega
    exact { hi with
      durFits := hdur'.trans_le (s.cfg.timeout_le.trans (by decide))
      sampling := fun _ => ⟨hdur', hrest⟩
      ended := fun he => by cases hp.symm.trans he }
  | timeout hr hp hn hs hd =>
    obtain ⟨-, ht, hnb, -, -, hf⟩ := hi.sampling hp
    exact { hi with
      durFits := s.cfg.timeout_le.trans_lt (by decide)
      driven := fun hd => absurd hd (not_driven (.inr (.inr rfl)))
      sampling := nofun
      ended := fun _ => ⟨hnb, hf, .inl ⟨rfl, rfl, ht⟩⟩ }
  | transition hr hp hn hs hm => exact hi.after_transition hp hs hm
  | cap hr hp hn hs hm => exact hi.after_cap hp hs hm
  | success hr hp hv =>
    obtain ⟨-, hck⟩ := (verdict_eq_none_iff _ _ _).1 hv
    exact { hi with
      lrTsFits := hi.tsNewFits
      warmFrame := fun _ => hck
      response := .inr ⟨rfl, s.sel, s.buf, hck, rfl⟩
      driven := fun hd => absurd hd (not_driven (.inl rfl))
      sampling := nofun
      ended := nofun }
  | failure k hr hp hn hv =>
    exact { hi with
      response := .inl rfl
      driven := fun hd => absurd hd (not_driven (.inl rfl))
      sampling := nofun
      ended := nofun }

theorem BlockInv.of_step (hi : BlockInv s) (h : step s = .next s') : BlockInv s' := by
  obtain ⟨u, hu, rfl⟩ := step_cases h
  exact { hi.of_tickCase hu with }

/-- Settles O37: every case of the inversion lemma keeps the invariant, and the passing of the inputs touches none of it. -/
theorem stepKeepsTheInvariant : Obligations.StepKeepsTheInvariant := fun _ _ hi h => hi.of_step h

/-- Settles O36: every counter is 0, the cache Cold and the response NAN16. -/
theorem invariantHoldsAtReset : Obligations.InvariantHoldsAtReset where
  tmrFits := Nat.two_pow_pos _
  tidxFits := Nat.two_pow_pos _
  nbitsFits := Nat.two_pow_pos _
  durFits := Nat.two_pow_pos _
  lrTsFits := Nat.two_pow_pos _
  tsNewFits := Nat.two_pow_pos _
  warmFrame := nofun
  response := .inl rfl
  driven hd := absurd hd (not_driven (.inl rfl))
  sampling := nofun
  ended := nofun

/-! ### What a step reads of the input ports -/

theorem decodeTransition_withInputs (i d : Nat) (s : State) (ports : Inputs) :
    decodeTransition i d { s with inp := ports } = { decodeTransition i d s with inp := ports } := by
  unfold decodeTransition; split <;> rfl

/-- The tick with other inputs at the ports: `rst` always matters, the command port in IDLE only, `now_ms` at the
acceptance of a read only, `line_in` in SAMPLE only (R31, R32, R34, R36). -/
theorem TickCase.withInputs {ports : Inputs} (hrst : ports.rst = s.inp.rst)
    (hcmd : s.phase = .idle → ports.cmdValid = s.inp.cmdValid ∧ ports.cmdOp = s.inp.cmdOp)
    (htime : ∀ sel, Accepts s (readOf sel) → ports.nowMs = s.inp.nowMs)
    (hline : s.phase = .sample → ports.lineIn = s.inp.lineIn) (h : TickCase s u) :
    TickCase { s with inp := ports } { u with inp := ports } := by
  have haccepts : ∀ i, Accepts s i → Accepts { s with inp := ports } i := by
    rintro i ⟨hr, hc, hp, hi⟩
    obtain ⟨hv, ho⟩ := hcmd hp
    exact ⟨hrst.trans hr, hv.trans hc, hp, (congrArg decode ho).trans hi⟩
  have hsampled : ∀ sel, Accepts s (readOf sel) → sampledTime { s with inp := ports } = sampledTime s := fun sel ha =>
    congrArg (· % 2 ^ s.cfg.tsWidth) (htime sel ha)
  cases h with
  | reset hr => exact .reset (hrst.trans hr)
  | wait hr hp hc => exact .wait (hrst.trans hr) hp ((hcmd hp).1.trans hc)
  | init ha => exact .init (haccepts _ ha)
  | reserved ha => exact .reserved (haccepts _ ha)
  | hit sel ha hh =>
    rw [← hsampled sel ha] at hh
    exact .hit sel (haccepts _ ha) hh
  | miss sel ha hh =>
    rw [← hsampled sel ha] at hh ⊢
    exact .miss sel (haccepts _ ha) hh
  | count hr hp hl ht => exact .count (hrst.trans hr) hp hl ht
  | toResetlow hr hp hl ht => exact .toResetlow (hrst.trans hr) hp hl ht
  | toRelease hr hp hl ht => exact .toRelease (hrst.trans hr) hp hl ht
  | toSample hr hp hl ht => exact .toSample (hrst.trans hr) hp hl ht
  | countLevel hr hp hn hs hd => exact .countLevel (hrst.trans hr) hp hn ((hline hp).trans hs) hd
  | timeout hr hp hn hs hd => exact .timeout (hrst.trans hr) hp hn ((hline hp).trans hs) hd
  | transition hr hp hn hs hm =>
    have hc := TickCase.transition (s := { s with inp := ports }) (hrst.trans hr) hp hn (hline hp ▸ hs) hm
    rw [completeTransition_eq, decodeTransition_withInputs, hline hp] at hc
    rwa [completeTransition_eq]
  | cap hr hp hn hs hm =>
    have hc := TickCase.cap (s := { s with inp := ports }) (hrst.trans hr) hp hn (hline hp ▸ hs) hm
    rw [completeTransition_eq, decodeTransition_withInputs, hline hp] at hc
    rwa [completeTransition_eq]
  | success hr hp hv => exact .success (hrst.trans hr) hp hv
  | failure k hr hp hn hv => exact .failure k (hrst.trans hr) hp hn hv

theorem FaultCase.withInputs {ports : Inputs} (hrst : ports.rst = s.inp.rst) (h : FaultCase s f) :
    FaultCase { s with inp := ports } f := by
  cases h with
  | timer hr hp hl => exact .timer (hrst.trans hr) hp hl
  | sampler f hr hp hn => exact .sampler f (hrst.trans hr) hp hn
  | bits hr hp hn => exact .bits (hrst.trans hr) hp hn

/-- The step with other inputs at the ports; the ports themselves are gone after it. -/
theorem step_withInputs {ports : Inputs} (hrst : ports.rst = s.inp.rst)
    (hcmd : s.phase = .idle → ports.cmdValid = s.inp.cmdValid ∧ ports.cmdOp = s.inp.cmdOp)
    (htime : ∀ sel, Accepts s (readOf sel) → ports.nowMs = s.inp.nowMs)
    (hline : s.phase = .sample → ports.lineIn = s.inp.lineIn) :
    step { s with inp := ports } = step s := by
  rcases tickCase_or_faultCase s with ⟨u, hu⟩ | ⟨f, hf⟩
  · rw [step_of_case hu, step_of_case (hu.withInputs hrst hcmd htime hline)]; rfl
  · rw [step_of_fault hf, step_of_fault (hf.withInputs hrst)]

/-- Settles O11: outside IDLE no case reads the command port. -/
theorem busyIgnoresTheCommandPort : Obligations.BusyIgnoresTheCommandPort := fun _ _ _ hp =>
  step_withInputs rfl (fun h => absurd h hp) (fun _ _ => rfl) (fun _ => rfl)

/-- Settles O12: outside SAMPLE no case reads the line. -/
theorem lineIsReadOnlyInSample : Obligations.LineIsReadOnlyInSample := fun _ _ hp =>
  step_withInputs rfl (fun _ => ⟨rfl, rfl⟩) (fun _ _ => rfl) (fun h => absurd h hp)

/-- Settles O13: only the two cases of an accepted read sample the time. -/
theorem timeIsReadOnlyAtAcceptance : Obligations.TimeIsReadOnlyAtAcceptance := fun _ _ hno =>
  step_withInputs rfl (fun _ => ⟨rfl, rfl⟩) (fun sel ha => absurd ha (hno sel)) (fun _ => rfl)

/-! ### Indistinguishable states -/

namespace SameToTheBlock

theorem refl (s : State) : SameToTheBlock s s :=
  ⟨rfl, rfl, rfl, rfl, rfl, rfl, rfl, rfl, rfl, fun _ => ⟨rfl, rfl⟩, fun _ => ⟨rfl, rfl⟩, fun _ => rfl,
    fun _ => ⟨rfl, rfl, rfl, rfl, rfl⟩, fun _ => ⟨rfl, rfl, rfl⟩⟩

theorem accepts {i : Instr} (h : SameToTheBlock s t) (ha : Accepts s i) : Accepts t i := by
  rwa [Accepts, ← h.inp, ← h.phase]

theorem sampledTime_eq (h : SameToTheBlock s t) : sampledTime s = sampledTime t := by
  rw [sampledTime, sampledTime, h.inp, h.cfg]

theorem running_of_phase {p : Phase} (h : SameToTheBlock s t) (hp : s.phase = p) (hne : p ≠ .idle) :
    s.sel = t.sel ∧ s.tsNew = t.tsNew := h.running (hp ▸ hne)

/-- `LR_TS` is compared only while Warm (R126). -/
theorem hit_eq (h : SameToTheBlock s t) : hit s (sampledTime s) = hit t (sampledTime t) := by
  rw [h.sampledTime_eq]
  cases hw : s.warm with
  | false => simp [hit, ← h.warm, hw]
  | true => simp [hit, ← h.warm, hw, (h.lastReading hw).2, h.cfg]

theorem sampleStuck_eq (h : SameToTheBlock s t) (hp : s.phase = .sample) : sampleStuck s = sampleStuck t := by
  obtain ⟨-, hdur, htidx, hnbits, -⟩ := h.sampling hp
  rw [sampleStuck, sampleStuck, h.cfg, hdur, htidx, hnbits]

theorem verdict_eq (h : SameToTheBlock s t) (hp : s.phase = .eval) :
    verdict s.nbits s.timedOut s.buf = verdict t.nbits t.timedOut t.buf := by
  obtain ⟨hto, hnbits, hbuf⟩ := h.evaluating hp
  rw [hto, hnbits, hbuf]

theorem after_completeTransition (h : SameToTheBlock s t) (hp : s.phase = .sample) :
    SameToTheBlock (completeTransition s) (completeTransition t) := by
  obtain ⟨-, hdur, htidx, hnbits, hbuf⟩ := h.sampling hp
  obtain ⟨hb, hn⟩ := decodeTransition_congr s.tidx s.dur h.cfg hbuf hnbits
  rw [completeTransition_eq, completeTransition_eq, ← htidx, ← hdur]
  exact { h with
    rspValid := rfl
    sampling := fun _ => ⟨congrArg Inputs.lineIn h.inp, rfl, rfl, hn, hb⟩
    evaluating := fun he => by cases hp.symm.trans he }

theorem after_cap (h : SameToTheBlock s t) (hp : s.phase = .sample) :
    SameToTheBlock (endByCap (completeTransition s)) (endByCap (completeTransition t)) := by
  have hc := h.after_completeTransition hp
  have hp' : (completeTransition s).phase = .sample := (completeTransition_phase s).trans hp
  obtain ⟨-, -, -, hn, hb⟩ := hc.sampling hp'
  exact { hc with
    phase := rfl
    running := fun _ => hc.running_of_phase hp' (by decide)
    driven := fun hd => absurd hd (not_driven (.inr (.inr rfl)))
    sampling := nofun
    evaluating := fun _ => ⟨rfl, hn, hb⟩ }

theorem after_enterDriven {p q : Phase} (h : SameToTheBlock s t) (hp : s.phase = q) (hne : q ≠ .idle) (hd : Driven p) :
    SameToTheBlock (enterDriven p s) (enterDriven p t) :=
  { h with
    phase := rfl
    rspValid := rfl
    running := fun _ => h.running_of_phase hp hne
    driven := fun _ => rfl
    sampling := fun hs => absurd hd (not_driven (.inr (.inl hs)))
    evaluating := fun he => absurd hd (not_driven (.inr (.inr he))) }

/-- One tick of the registers, in step: the second state has the first one's case. -/
theorem tickCase (h : SameToTheBlock s t) (hc : TickCase s u) : ∃ v, TickCase t v ∧ SameToTheBlock u v := by
  have hrst : s.inp.rst = t.inp.rst := congrArg Inputs.rst h.inp
  have hcfg := h.cfg
  cases hc with
  | reset hr =>
    exact ⟨_, .reset (hrst ▸ hr), { h with
      phase := rfl
      warm := rfl
      rspStatus := rfl
      rspValue := rfl
      rspValid := rfl
      lastReading := nofun
      running := fun hne => absurd rfl hne
      driven := fun hd => absurd hd (not_driven (.inl rfl))
      sampling := nofun
      evaluating := nofun }⟩
  | wait hr hp hcv =>
    exact ⟨_, .wait (hrst ▸ hr) (h.phase ▸ hp) (h.inp ▸ hcv), { h with rspValid := rfl }⟩
  | init ha =>
    exact ⟨_, .init (h.accepts ha), { h with
      warm := rfl
      rspStatus := rfl
      rspValue := rfl
      rspValid := rfl
      lastReading := nofun }⟩
  | reserved ha =>
    exact ⟨_, .reserved (h.accepts ha), { h with rspStatus := rfl, rspValue := rfl, rspValid := rfl }⟩
  | hit sel ha hh =>
    obtain ⟨hw, -⟩ := (hit_eq_true_iff _ _).1 hh
    refine ⟨_, .hit sel (h.accepts ha) (h.hit_eq ▸ hh), { h with rspStatus := rfl, rspValue := ?_, rspValid := rfl }⟩
    rw [cacheHit_rspValue, cacheHit_rspValue, h.cfg, (h.lastReading hw).1]
  | miss sel ha hh =>
    exact ⟨_, .miss sel (h.accepts ha) (h.hit_eq ▸ hh), { h with
      phase := rfl
      rspValid := rfl
      running := fun _ => ⟨rfl, h.sampledTime_eq⟩
      driven := fun _ => rfl
      sampling := nofun
      evaluating := nofun }⟩
  | count hr hp hl ht =>
    have htmr := h.driven hp
    exact ⟨_, .count (hrst ▸ hr) (h.phase ▸ hp) (hcfg ▸ htmr ▸ hl) (hcfg ▸ h.phase ▸ htmr ▸ ht), { h with
      rspValid := rfl
      driven := fun _ => congrArg (· + 1) htmr }⟩
  | toResetlow hr hp hl ht =>
    have htmr := h.driven (.inl hp)
    exact ⟨_, .toResetlow (hrst ▸ hr) (h.phase ▸ hp) (hcfg ▸ htmr ▸ hl) (hcfg ▸ htmr ▸ ht),
      h.after_enterDriven hp (by decide) (.inr (.inl rfl))⟩
  | toRelease hr hp hl ht =>
    have htmr := h.driven (.inr (.inl hp))
    exact ⟨_, .toRelease (hrst ▸ hr) (h.phase ▸ hp) (hcfg ▸ htmr ▸ hl) (hcfg ▸ htmr ▸ ht),
      h.after_enterDriven hp (by decide) (.inr (.inr rfl))⟩
  | toSample hr hp hl ht =>
    have htmr := h.driven (.inr (.inr hp))
    exact ⟨_, .toSample (hrst ▸ hr) (h.phase ▸ hp) (hcfg ▸ htmr ▸ hl) (hcfg ▸ htmr ▸ ht), { h with
      phase := rfl
      rspValid := rfl
      running := fun _ => h.running_of_phase hp (by decide)
      driven := fun hd => absurd hd (not_driven (.inr (.inl rfl)))
      sampling := fun _ => ⟨rfl, rfl, rfl, rfl, rfl⟩
      evaluating := nofun }⟩
  | countLevel hr hp hn hs hd =>
    obtain ⟨hcur, hdur, htidx, hnbits, hbuf⟩ := h.sampling hp
    exact ⟨_, .countLevel (hrst ▸ hr) (h.phase ▸ hp) (h.sampleStuck_eq hp ▸ hn) (h.inp ▸ hcur ▸ hs) (hcfg ▸ hdur ▸ hd),
      { h with
        rspValid := rfl
        sampling := fun _ => ⟨hcur, congrArg (· + 1) hdur, htidx, hnbits, hbuf⟩ }⟩
  | timeout hr hp hn hs hd =>
    obtain ⟨hcur, hdur, htidx, hnbits, hbuf⟩ := h.sampling hp
    exact ⟨_, .timeout (hrst ▸ hr) (h.phase ▸ hp) (h.sampleStuck_eq hp ▸ hn) (h.inp ▸ hcur ▸ hs) (hcfg ▸ hdur ▸ hd),
      { h with
        phase := rfl
        rspValid := rfl
        running := fun _ => h.running_of_phase hp (by decide)
        driven := fun hd => absurd hd (not_driven (.inr (.inr rfl)))
        sampling := nofun
        evaluating := fun _ => ⟨rfl, hnbits, hbuf⟩ }⟩
  | transition hr hp hn hs hm =>
    obtain ⟨hcur, -, htidx, -, -⟩ := h.sampling hp
    exact ⟨_, .transition (hrst ▸ hr) (h.phase ▸ hp) (h.sampleStuck_eq hp ▸ hn) (h.inp ▸ hcur ▸ hs)
      (hcfg ▸ htidx ▸ hm), h.after_completeTransition hp⟩
  | cap hr hp hn hs hm =>
    obtain ⟨hcur, -, htidx, -, -⟩ := h.sampling hp
    exact ⟨_, .cap (hrst ▸ hr) (h.phase ▸ hp) (h.sampleStuck_eq hp ▸ hn) (h.inp ▸ hcur ▸ hs) (hcfg ▸ htidx ▸ hm),
      h.after_cap hp⟩
  | success hr hp hv =>
    obtain ⟨-, -, hbuf⟩ := h.evaluating hp
    obtain ⟨hsel, hts⟩ := h.running_of_phase hp (by decide)
    refine ⟨_, .success (hrst ▸ hr) (h.phase ▸ hp) (h.verdict_eq hp ▸ hv), { h with
      phase := rfl
      warm := rfl
      rspStatus := rfl
      rspValue := ?_
      rspValid := rfl
      lastReading := fun _ => ⟨hbuf, hts⟩
      running := fun hne => absurd rfl hne
      driven := fun hd => absurd hd (not_driven (.inl rfl))
      sampling := nofun
      evaluating := nofun }⟩
    rw [succeed_rspValue, succeed_rspValue, hcfg, hsel, hbuf]
  | failure k hr hp hn hv =>
    obtain ⟨-, hnbits, -⟩ := h.evaluating hp
    exact ⟨_, .failure k (hrst ▸ hr) (h.phase ▸ hp) (hnbits ▸ hn) (h.verdict_eq hp ▸ hv), { h with
      phase := rfl
      rspStatus := rfl
      rspValue := rfl
      rspValid := rfl
      running := fun hne => absurd rfl hne
      driven := fun hd => absurd hd (not_driven (.inl rfl))
      sampling := nofun
      evaluating := nofun }⟩

theorem after_advanceInputs (h : SameToTheBlock s t) : SameToTheBlock (advanceInputs s) (advanceInputs t) :=
  { h with
    inp := by rw [advanceInputs_inp, advanceInputs_inp, nextInputs, nextInputs, h.script, h.draws]
    script := congrArg List.tail h.script
    draws := congrArg (· + 1) h.draws }

theorem of_step (h : SameToTheBlock s t) (hs : step s = .next s') : ∃ t', step t = .next t' ∧ SameToTheBlock s' t' := by
  obtain ⟨u, hu, rfl⟩ := step_cases hs
  obtain ⟨v, hv, huv⟩ := h.tickCase hu
  exact ⟨_, step_of_case hv, huv.after_advanceInputs⟩

/-- Indistinguishability is a simulation over any number of steps. -/
theorem of_runTicks {k : Nat} (h : SameToTheBlock s t) (hs : runTicks k s = .next s') :
    ∃ t', runTicks k t = .next t' ∧ SameToTheBlock s' t' := by
  induction k generalizing s t with
  | zero => cases hs; exact ⟨t, rfl, h⟩
  | succ k ih =>
    obtain ⟨u, hu, hrun⟩ := runTicks_succ_inv hs
    obtain ⟨v, hv, huv⟩ := h.of_step hu
    rw [runTicks_succ hv]
    exact ih huv hrun

/-- The ports show `PHASE` and the response registers only (R33 to R37). -/
theorem outputs_eq (h : SameToTheBlock s t) : outputs s = outputs t := by
  simp [outputs, cmdReady, busy, lineOe, lineOut, irqInhibit, h.phase, h.rspValid, h.rspStatus, h.rspValue]

end SameToTheBlock

/-- Settles O45: each tick reads of the second state only what it shares with the first, and the outputs are among it. -/
theorem unspecifiedRegistersAreNeverRead : Obligations.UnspecifiedRegistersAreNeverRead := by
  intro s t s' k h hs
  obtain ⟨t', ht, h'⟩ := h.of_runTicks hs
  exact ⟨t', ht, h', h'.outputs_eq⟩

/-- An EVAL step that answers a next state finds `NBITS` in range. -/
theorem nbits_le_of_eval_step (hr : s.inp.rst = false) (hp : s.phase = .eval) (h : step s = .next s') : s.nbits ≤ 41 := by
  by_contra hn
  rw [step_of_fault (.bits hr hp (not_le.1 hn))] at h
  cases h

/-- Settles O46: a failing EVAL tick writes nothing that comes from the buffer, and IDLE does not read it. -/
theorem rejectedBitsAreUnobservable : Obligations.RejectedBitsAreUnobservable := by
  intro s s' b k hr hp hv hvb hs
  have hn := nbits_le_of_eval_step hr hp hs
  rw [step_of_case (.failure k hr hp hn hv)] at hs
  cases hs
  have hsame : SameToTheBlock { fail k s with phase := .idle } { fail k { s with buf := b } with phase := .idle } :=
    { SameToTheBlock.refl { fail k s with phase := .idle } with sampling := nofun, evaluating := nofun }
  exact ⟨_, step_of_case (s := { s with buf := b }) (.failure k hr hp hn hvb), hsame.after_advanceInputs,
    hsame.after_advanceInputs.outputs_eq⟩

/-! ### What a step may change -/

/-- Settles O39: the three ways to stop, the sampler's taken apart by register. -/
theorem stepStopsOnlyOutOfRange : Obligations.StepStopsOnlyOutOfRange := by
  refine ⟨step_ne_refused, fun s f h => ?_⟩
  cases faultCase_of_step h with
  | timer hr hp hl => exact ⟨hr, .inl ⟨rfl, hp, hl⟩⟩
  | bits hr hp hn => exact ⟨hr, .inr (.inr (.inr ⟨rfl, .inr hp, hn⟩))⟩
  | sampler f hr hp hn =>
    rcases sampleStuck_eq_some hn with ⟨hf, hd⟩ | ⟨hf, ht⟩ | ⟨hf, hb⟩
    · exact ⟨hr, .inr (.inl ⟨hf, hp, hd⟩)⟩
    · exact ⟨hr, .inr (.inr (.inl ⟨hf, hp, ht⟩))⟩
    · exact ⟨hr, .inr (.inr (.inr ⟨hf, .inl hp, hb⟩))⟩

/-- Settles O40: no tick of the registers writes the configuration, nor does the passing of the inputs. -/
theorem configurationIsConstant : Obligations.ConfigurationIsConstant := by
  intro s s' h
  obtain ⟨u, hu, rfl⟩ := step_next_iff.1 h
  obtain ⟨-, -, -, hcfg⟩ := tick_outside hu
  exact hcfg

/-- Settles O41: among the cases only `success` writes LastReading, and only `success` and `init` write `WARM`. -/
theorem onlyCommitWritesLastReading : Obligations.OnlyCommitWritesLastReading := by
  intro s s' hr h
  obtain ⟨u, hu, rfl⟩ := step_cases h
  cases hu with
  | reset hr' => rw [hr] at hr'; cases hr'
  | init ha => exact ⟨.inr ⟨rfl, rfl⟩, .inr (.inr ⟨ha, rfl⟩)⟩
  | success _ hp hv =>
    obtain ⟨hn, hck⟩ := (verdict_eq_none_iff _ _ _).1 hv
    exact ⟨.inl ⟨hp, hn, hck, rfl, rfl, rfl⟩, .inl ⟨hp, hn, hck, rfl, rfl, rfl⟩⟩
  | transition | cap => exact ⟨.inr (by simp), .inr (.inl (by simp))⟩
  | wait | reserved | hit | miss | count | toResetlow | toRelease | toSample | countLevel | timeout | failure =>
    exact ⟨.inr ⟨rfl, rfl⟩, .inr (.inl rfl)⟩

theorem Accepts.phase_eq {i : Instr} (h : Accepts s i) : s.phase = .idle := by
  obtain ⟨-, -, hp, -⟩ := h
  exact hp

/-- One word stands for one command (R60). -/
theorem Accepts.unique {i j : Instr} (hi : Accepts s i) (hj : Accepts s j) : i = j := by
  obtain ⟨-, -, -, hi⟩ := hi
  obtain ⟨-, -, -, hj⟩ := hj
  exact hi.symm.trans hj

/-- An accepted command completes at once unless it is a read that misses (R27). -/
theorem completes_iff_of_accepts {i : Instr} (h : Accepts s i) :
    Completes s ↔ i = .init ∨ i = .rsvd ∨ hit s (sampledTime s) = true := by
  obtain ⟨hr, hc, hp, hi⟩ := h
  simp [Completes, hr, hc, hp, hi, hit_eq_true_iff]

/-- The phases of a run before its EVAL tick complete nothing. -/
theorem not_completes_of_phase {p : Phase} (hp : s.phase = p) (hne : p ≠ .idle) (hne' : p ≠ .eval) : ¬ Completes s := by
  rintro ⟨-, h | ⟨h, -⟩⟩
  · exact hne' (hp.symm.trans h)
  · exact hne (hp.symm.trans h)

/-- `RSP_VALID` after a tick says whether the tick completed a command (R27). -/
theorem rspValid_iff_completes (h : TickCase s u) : u.rspValid = true ↔ Completes s := by
  cases h with
  | reset hr => simp [Completes, hr]
  | wait hr hp hc => simp [Completes, hp, hc]
  | init ha => simp [completes_iff_of_accepts ha]
  | reserved ha => simp [completes_iff_of_accepts ha]
  | hit sel ha hh => simp [completes_iff_of_accepts ha, hh]
  | miss sel ha hh => cases sel <;> simp [completes_iff_of_accepts ha, hh, readOf]
  | count hr hp hl ht =>
    have hb : ¬ Completes s := by
      obtain hp | hp | hp := hp <;> exact not_completes_of_phase hp (by decide) (by decide)
    simp [hb]
  | toResetlow _ hp | toRelease _ hp | toSample _ hp | countLevel _ hp | timeout _ hp | transition _ hp | cap _ hp =>
    simp [not_completes_of_phase hp (by decide) (by decide)]
  | success hr hp hv => simp [Completes, hr, hp]
  | failure k hr hp hn hv => simp [Completes, hr, hp]

/-- Settles O42: the passing of the inputs leaves `RSP_VALID`, which is what the port shows. -/
theorem responseValidMarksCompletion : Obligations.ResponseValidMarksCompletion := by
  intro s s' h
  obtain ⟨u, hu, rfl⟩ := step_cases h
  have hv : u.rspValid = true ↔ Completes s := rspValid_iff_completes hu
  exact ⟨hv, hv⟩

/-- A tick that sets no `RSP_VALID` writes no response, unless it is the reset step (R25, R26). -/
theorem response_held (h : TickCase s u) (hr : s.inp.rst = false) (hv : u.rspValid = false) :
    u.rspStatus = s.rspStatus ∧ u.rspValue = s.rspValue := by
  cases h with
  | reset hr' => rw [hr] at hr'; cases hr'
  | init | reserved | hit | success | failure => cases hv
  | wait | miss | count | toResetlow | toRelease | toSample | countLevel | timeout => exact ⟨rfl, rfl⟩
  | transition | cap => exact ⟨by simp, by simp⟩

/-- Settles O43: a step that completes nothing sets no `RSP_VALID`. -/
theorem responseHolds : Obligations.ResponseHolds := by
  intro s s' h hr hc
  obtain ⟨u, hu, rfl⟩ := step_cases h
  have hv : u.rspValid = false := Bool.eq_false_iff.2 (mt (rspValid_iff_completes hu).1 hc)
  exact response_held (u := u) hu hr hv

/-- Settles O44: the phase each case of the inversion lemma starts in and ends in. -/
theorem phaseAdvancesInOrder : Obligations.PhaseAdvancesInOrder := by
  intro s s' hr h
  obtain ⟨u, hu, rfl⟩ := step_cases h
  cases hu with
  | reset hr' => rw [hr] at hr'; cases hr'
  | wait _ hp hc =>
    rw [hp]
    refine .inr ⟨hp, fun ⟨⟨sel, _, hv, _⟩, _⟩ => ?_⟩
    rw [hc] at hv; cases hv
  | init ha | reserved ha =>
    rw [ha.phase_eq]
    refine .inr ⟨ha.phase_eq, fun ⟨⟨sel, hsel⟩, _⟩ => ?_⟩
    have := ha.unique hsel
    cases sel <;> cases this
  | hit sel ha hh =>
    rw [ha.phase_eq]
    refine .inr ⟨ha.phase_eq, fun ⟨_, hm⟩ => ?_⟩
    rw [(hit_eq_false_iff s).2 hm] at hh; cases hh
  | miss sel ha hh =>
    rw [ha.phase_eq]
    exact .inl ⟨rfl, ⟨sel, ha⟩, (hit_eq_false_iff s).1 hh⟩
  | count _ hp =>
    obtain hp | hp | hp := hp <;> rw [hp] <;> exact .inl hp
  | toResetlow _ hp _ ht | toRelease _ hp _ ht | toSample _ hp _ ht => rw [hp]; exact .inr ⟨rfl, ht⟩
  | countLevel _ hp => rw [hp]; exact .inl hp
  | timeout _ hp => rw [hp]; exact .inr ⟨rfl, .inl ⟨rfl, rfl⟩⟩
  | transition _ hp => rw [hp]; exact .inl (by simp [hp])
  | cap _ hp _ _ hm => rw [hp]; exact .inr ⟨rfl, .inr ⟨rfl, hm⟩⟩
  | success _ hp => rw [hp]; rfl
  | failure _ _ hp => rw [hp]; rfl

/-! ### Acceptance and the ports -/

/-- Settles O8: the IDLE tick is `exec`, and the inputs pass after it. -/
theorem stepRunsTheDecodedCommand : Obligations.StepRunsTheDecodedCommand := by
  refine ⟨fun s i ha => ?_, fun s s' h => ?_, inputsAt_advanceInputs⟩
  · rw [step, tick_of_accepts ha]
  · rw [h]; rfl

/-- Settles O14: R37's table row by row. -/
theorem outputsFollowThePhase : Obligations.OutputsFollowThePhase := by
  intro s
  cases hp : s.phase <;> simp [cmdReady, busy, lineOe, lineOut, irqInhibit, hp]

theorem busy_eq_true_iff (s : State) : busy s = true ↔ s.phase ≠ .idle := bne_iff_ne

/-- Settles O15: the status code constructor by constructor; the other ports are the registers themselves. -/
theorem responsePortsShowTheRegisters : Obligations.ResponsePortsShowTheRegisters := by
  intro s
  refine ⟨rfl, rfl, ?_, busy_eq_true_iff s⟩
  show s.rspStatus.code = _
  cases s.rspStatus <;> rfl

end Sys2Proof.Machine
end

section
/-! PROOFS. The frame in memory (20_memory.md): what `ShiftIn` stores (R42), and where the k-th data bit of a train is to be
found while the frame fills and when it is full (R41, R44). -/

namespace Sys2Proof.Machine

/-! ### One bit more -/

/-- Settles O21: the writes are `shiftIn`'s own, the byte in numbers is `frameGet_shiftFrame`. -/
theorem shiftInStoresOneBit : Obligations.ShiftInStoresOneBit :=
  fun s b => ⟨rfl, frameGet_shiftFrame s.buf s.nbits b, shiftFrame_of_ge s.buf s.nbits b⟩

/-- `frameGet_shiftFrame` bit by bit: in the byte it enters the new bit is bit 0 and the old ones move up by one. -/
theorem getLsbD_shiftFrame (f : Frame) {n p : Nat} (b : Bool) (hn : n < 40) (hp : p < 8) (j : Fin 5) :
    (frameGet (shiftFrame f n b) j).getLsbD p =
      if j.val = n / 8 then (if p = 0 then b else (frameGet f j).getLsbD (p - 1)) else (frameGet f j).getLsbD p := by
  simp only [← BitVec.testBit_toNat]
  rw [frameGet_shiftFrame f n b hn j]
  split
  · rw [← Nat.bit_val, show 256 = 2 ^ 8 from rfl, Nat.testBit_mod_two_pow, decide_eq_true hp, Bool.true_and]
    cases p with
    | zero => exact Nat.testBit_bit_zero _ _
    | succ p => exact Nat.testBit_bit_succ _ _ _
  · rfl

/-- Data bit k of a frame that has received n > k bits: a byte not yet full is right-aligned (R44). -/
def receivedBit (f : Frame) (n : Nat) (k : Fin 40) : Bool :=
  (frameGet f ⟨k.val / 8, by omega⟩).getLsbD (min (7 - k.val % 8) (n - 1 - k.val))

/-- With all 40 bits received every bit is where R41 puts it. -/
theorem receivedBit_of_ge (f : Frame) {n : Nat} (hn : 40 ≤ n) (k : Fin 40) : receivedBit f n k = frameBit f k := by
  have hpos : min (7 - k.val % 8) (n - 1 - k.val) = 7 - k.val % 8 := by omega
  rw [receivedBit, hpos, frameBit]

/-- The bit shifted in is the newest one. -/
theorem receivedBit_shiftFrame_new (f : Frame) (b : Bool) (k : Fin 40) :
    receivedBit (shiftFrame f k.val b) (k.val + 1) k = b := by
  rw [receivedBit, getLsbD_shiftFrame f b k.isLt (by omega), if_pos rfl, if_pos (by omega)]

/-- A shift loses no bit received before. -/
theorem receivedBit_shiftFrame_old (f : Frame) {n : Nat} (b : Bool) {k : Fin 40} (hk : k.val < n) :
    receivedBit (shiftFrame f n b) (min (n + 1) 41) k = receivedBit f n k := by
  rcases Nat.lt_or_ge n 40 with hn | hn
  · unfold receivedBit
    rw [getLsbD_shiftFrame f b hn (by omega)]
    split
    · next hj =>
      -- The byte is still filling: the bit moves up by one, and so does the position it is looked for at.
      have hj : k.val / 8 = n / 8 := hj
      rw [if_neg (by omega)]
      congr 1
      omega
    · next hj =>
      have hj : k.val / 8 ≠ n / 8 := hj
      congr 1
      omega
  · rw [shiftFrame_of_ge f n b hn, receivedBit_of_ge f (by omega), receivedBit_of_ge f hn]

/-! ### The bits of a train -/

/-- One round of `Decode` in terms of `ShiftIn` (R106, R108), at any threshold. -/
theorem decodeEntry_of_isData (th : Nat) (acc : Frame × Nat) {i : Nat} (d : Nat) (hi : isData i = true) :
    decodeEntry th acc i d = (shiftFrame acc.1 acc.2 (bitOf th d), min (acc.2 + 1) 41) := by
  have hb : (if th < d then 1 else 0) = (bitOf th d).toNat := by
    by_cases hd : th < d <;> simp [bitOf, hd]
  rw [decodeEntry, if_pos ((isData_iff i).1 hi), shiftFrame]
  simp only [hb, shiftByte_eq]

theorem decodeEntry_of_not_isData (th : Nat) (acc : Frame × Nat) {i : Nat} (d : Nat) (hi : ¬ isData i = true) :
    decodeEntry th acc i d = acc :=
  if_neg (mt (isData_iff i).2 hi)

theorem decodeTrain_concat (th : Nat) (t : List Nat) (d : Nat) :
    decodeTrain th (t ++ [d]) = decodeEntry th (decodeTrain th t) t.length d := by
  rw [decodeTrain, decodeFrom_append, Nat.zero_add]
  rfl

/-- The number of data bits depends on the length of the train alone (R68). -/
theorem decodeTrain_nbits (th : Nat) (t : List Nat) : (decodeTrain th t).2 = dataCount t.length := by
  induction t using List.reverseRecOn with
  | nil => rfl
  | append_singleton t d ih =>
    rw [decodeTrain_concat, List.length_append, List.length_singleton, ← decodeEntry_nbits th t.length d (decodeTrain th t).1,
      ← ih]

/-- A data transition before the frame is full is the one that R66 numbers by the bits already there. -/
theorem eq_of_isData_of_dataCount_lt {i : Nat} (hi : isData i = true) (hn : dataCount i < 40) : i = 4 + 2 * dataCount i := by
  have := (isData_iff i).1 hi
  have := dataCount_eq i
  omega

/-- Each data bit decoded so far is the classification of its transition: kept by every further entry of the train. -/
theorem receivedBit_decodeTrain (th : Nat) (t : List Nat) (k : Fin 40) (hk : k.val < dataCount t.length) :
    ∃ d, t[4 + 2 * k.val]? = some d ∧ receivedBit (decodeTrain th t).1 (dataCount t.length) k = bitOf th d := by
  induction t using List.reverseRecOn with
  | nil => cases hk
  | append_singleton t d ih =>
    rw [List.length_append, List.length_singleton, dataCount_succ] at hk ⊢
    have hold (h : k.val < dataCount t.length) : ∃ e, (t ++ [d])[4 + 2 * k.val]? = some e ∧
        receivedBit (decodeTrain th t).1 (dataCount t.length) k = bitOf th e := by
      obtain ⟨e, he, hbit⟩ := ih h
      have hlen : 4 + 2 * k.val < t.length := (List.getElem?_eq_some_iff.1 he).1
      exact ⟨e, (List.getElem?_append_left hlen).trans he, hbit⟩
    rw [decodeTrain_concat]
    by_cases hi : isData t.length = true
    · rw [if_pos hi] at hk ⊢
      rw [decodeEntry_of_isData th _ d hi, decodeTrain_nbits]
      rcases Nat.lt_or_ge k.val (dataCount t.length) with h | h
      · rw [receivedBit_shiftFrame_old _ _ h]
        exact hold h
      · have hkn : dataCount t.length = k.val := by omega
        have hlen : t.length = 4 + 2 * k.val := hkn ▸ eq_of_isData_of_dataCount_lt hi (hkn ▸ k.isLt)
        rw [hkn, ← hlen, show min (k.val + 1) 41 = k.val + 1 by omega]
        exact ⟨d, List.getElem?_concat_length, receivedBit_shiftFrame_new _ _ k⟩
    · rw [if_neg hi] at hk ⊢
      rw [decodeEntry_of_not_isData th _ d hi]
      exact hold hk

/-- Settles O24: of 40 bits or more all forty have been received, so each is where R41 puts it. -/
theorem frameBitsAreInOrder : Obligations.FrameBitsAreInOrder := by
  intro th train hn k
  rw [decodeTrain_nbits] at hn
  rw [← receivedBit_of_ge _ hn]
  exact receivedBit_decodeTrain th train k (by omega)

end Sys2Proof.Machine
end

section
/-! PROOFS. The encodings (30_encoding.md): the command word (R60, R61), the number of data bits of a train (R68), the frame
its bits make up (R71), and the values read from it (R64, R69, R70). -/

namespace Sys2Proof

/-- The conditions of R71 as propositions. -/
theorem PulseWidths.wf_iff (p : Params) (w : PulseWidths) : w.wf p = true ↔
    w.zero ≤ p.threshold ∧ p.threshold < w.one ∧ w.lead0 < p.timeoutCount ∧ w.lead1 < p.timeoutCount ∧
      w.lead2 < p.timeoutCount ∧ w.lead3 < p.timeoutCount ∧ w.sep < p.timeoutCount ∧ w.zero < p.timeoutCount ∧
      w.one < p.timeoutCount := by
  simp only [PulseWidths.wf, PulseWidths.zeroOk, PulseWidths.oneOk, PulseWidths.shortOk, Bool.and_eq_true,
    decide_eq_true_eq, and_assoc]

end Sys2Proof

namespace Sys2Proof.Machine

/-! ### The command word -/

/-- Settles O1: the eight facts by evaluation, one word at a time. -/
theorem tableWordsDecode : Obligations.TableWordsDecode := by
  unfold Obligations.TableWordsDecode
  decide

theorem roundTrip (i : Instr) : Laws.RoundTrip.Statement i := by
  cases i with
  | init => exact Laws.RoundTrip.init
  | rdhum => exact Laws.RoundTrip.rdhum
  | rdtemp => exact Laws.RoundTrip.rdtemp
  | rsvd => exact Laws.RoundTrip.rsvd

/-- Settles O2: command by command from the family `RoundTrip`, and word by word over the four words. -/
theorem commandRoundTrip : Obligations.CommandRoundTrip := by
  refine ⟨fun i rest hi => ?_, by decide⟩
  obtain ⟨hword, hbytes⟩ := roundTrip i hi
  exact ⟨hword, hbytes rest⟩

/-! ### The values of a frame -/

theorem valueSimple_le (sel : Bool) (f : Frame) : (value .simple sel f).toNat ≤ 255 := by
  have h0 := f.byte0.isLt
  have h2 := f.byte2.isLt
  cases sel
  · show (f.byte0.setWidth 16).toNat ≤ 255
    rw [BitVec.toNat_setWidth]
    omega
  · show (f.byte2.setWidth 16).toNat ≤ 255
    rw [BitVec.toNat_setWidth]
    omega

theorem scaledHumidity_toNat (f : Frame) :
    (value .scaled false f).toNat = f.byte0.toNat % 128 * 256 + f.byte1.toNat := scaledWord_toNat _ _

/-- A scaled word is not negative in two's complement (R119). -/
theorem scaledWord_toInt (hi lo : Byte) : (scaledWord hi lo).toInt = ((scaledWord hi lo).toNat : Int) :=
  BitVec.toInt_eq_toNat_of_lt (by have := scaledWord_lt hi lo; omega)

theorem signBit_iff (b : Byte) : b.getLsbD 7 = true ↔ 128 ≤ b.toNat := by
  rw [← BitVec.msb_eq_getLsbD_last b, BitVec.msb_eq_decide, decide_eq_true_iff]

/-- The SCALED temperature is the word of bytes 2 and 3 with the sign of bit 7 of byte 2 (R69, R116). -/
theorem scaledTemperature_toInt (f : Frame) : (value .scaled true f).toInt =
    if 128 ≤ f.byte2.toNat then -((scaledWord f.byte2 f.byte3).toNat : Int) else (scaledWord f.byte2 f.byte3).toNat := by
  show (if f.byte2.getLsbD 7 = true then _ else _ : Half).toInt = _
  rw [apply_ite BitVec.toInt, neg16_toInt _ (scaledWord_lt _ _), scaledWord_toInt]
  simp only [signBit_iff]

/-- Settles O33: the two words in numbers; the negative zero by evaluation. -/
theorem scaledValuesAreTenths : Obligations.ScaledValuesAreTenths := by
  intro f
  refine ⟨scaledHumidity_toNat f, ?_, fun h2 h3 => ?_⟩
  · rw [scaledTemperature_toInt, scaledWord_toNat]
  · apply BitVec.eq_of_toInt_eq
    rw [scaledTemperature_toInt, h2, h3]
    decide

theorem scaledHumidity_le (f : Frame) : (value .scaled false f).toNat ≤ 0x7FFF := Nat.le_of_lt_succ (scaledWord_lt _ _)

theorem scaledTemperature_bounds (f : Frame) :
    -32767 ≤ (value .scaled true f).toInt ∧ (value .scaled true f).toInt ≤ 32767 := by
  have := scaledWord_lt f.byte2 f.byte3
  rw [scaledTemperature_toInt]
  split <;> omega

/-- Settles O34: 0x8000 is above every unsigned value, and as a signed number below every SCALED temperature. -/
theorem noValueIsNan16 : Obligations.NoValueIsNan16 := by
  refine ⟨rfl, valueSimple_le, scaledHumidity_le, scaledTemperature_bounds, fun m sel f h => ?_⟩
  cases m with
  | simple => exact absurd (h ▸ valueSimple_le sel f) (by decide)
  | scaled =>
    cases sel with
    | false => exact absurd (h ▸ scaledHumidity_le f) (by decide)
    | true => exact absurd (h ▸ scaledTemperature_bounds f) (by decide)

/-! ### Trains of frames -/

/-- Settles O23: `dataCount` of the length, in its closed form. -/
theorem trainLengthGivesBitCount : Obligations.TrainLengthGivesBitCount := by
  intro th train
  have hn : (decodeTrain th train).2 = min 41 ((train.length - 3) / 2) :=
    (decodeTrain_nbits th train).trans (dataCount_eq _)
  exact ⟨by omega, by omega, by omega, by omega, decodeTrain_nbits th train⟩

/-- Two frames with the same forty bits are the same frame (R41). -/
theorem frame_ext_bits {f g : Frame} (h : ∀ k, frameBit f k = frameBit g k) : f = g := by
  apply frame_ext
  intro j
  apply BitVec.eq_of_getLsbD_eq
  intro i hi
  have hj := j.isLt
  have hk := h ⟨8 * j.val + (7 - i), by omega⟩
  have hbyte : (8 * j.val + (7 - i)) / 8 = j.val := by omega
  have hbit : 7 - (8 * j.val + (7 - i)) % 8 = i := by omega
  simpa only [frameBit, hbyte, hbit] using hk

/-- A train of 83 or 84 entries decodes to the frame whose bits its data entries stand for. -/
theorem decodeTrain_eq_of_bits {th : Nat} {t : List Nat} {f : Frame} (hlen : t.length = 83 ∨ t.length = 84)
    (h : ∀ k : Fin 40, ∃ d, t[4 + 2 * k.val]? = some d ∧ bitOf th d = frameBit f k) : decodeTrain th t = (f, 40) := by
  have hn : (decodeTrain th t).2 = 40 := by
    rw [decodeTrain_nbits, dataCount_eq]
    omega
  refine Prod.ext (frame_ext_bits fun k => ?_) hn
  obtain ⟨d, hd, hbit⟩ := h k
  obtain ⟨e, he, hdecoded⟩ := frameBitsAreInOrder th t hn.ge k
  obtain rfl : d = e := Option.some.inj (hd.symm.trans he)
  exact hdecoded.trans hbit

/-- Every second entry of a list of pairs, from the first one on. -/
theorem getElem?_flatMap_pair {α β : Type} (g : α → β) (b : β) (l : List α) (k : Nat) :
    (l.flatMap fun a => [g a, b])[2 * k]? = l[k]?.map g := by
  induction l generalizing k with
  | nil => rfl
  | cons a l ih =>
    cases k with
    | zero => rfl
    | succ k => exact ih k

theorem encodeTrain_length (w : PulseWidths) (f : Frame) : (encodeTrain w f).length = 84 := rfl

/-- The data entry of bit k (R66, R71). -/
theorem encodeTrain_data (w : PulseWidths) (f : Frame) (k : Fin 40) :
    (encodeTrain w f)[4 + 2 * k.val]? = some (if frameBit f k then w.one else w.zero) := by
  rw [encodeTrain, List.getElem?_append_right (Nat.le_add_right 4 _)]
  show (List.flatMap _ _)[4 + 2 * k.val - 4]? = _
  rw [Nat.add_sub_cancel_left, getElem?_flatMap_pair]
  simp

/-- D0 and D1 lie on the two sides of the threshold, so each data symbol is classified as its bit (R71, R108). -/
theorem bitOf_symbol {p : Params} {w : PulseWidths} (hw : w.wf p = true) (b : Bool) :
    bitOf p.threshold (if b then w.one else w.zero) = b := by
  obtain ⟨hzero, hone, -⟩ := (PulseWidths.wf_iff p w).1 hw
  cases b
  · exact decide_eq_false (not_lt.2 hzero)
  · exact decide_eq_true hone

/-- Settles O25: the data entries are those of the frame's bits, and the last entry is a separator. -/
theorem decodeOfEncodeIsTheFrame : Obligations.DecodeOfEncodeIsTheFrame := by
  intro p w f hw
  have hlen := encodeTrain_length w f
  have hbits (k : Fin 40) := bitOf_symbol hw (frameBit f k)
  refine ⟨decodeTrain_eq_of_bits (.inr hlen) fun k => ⟨_, encodeTrain_data w f k, hbits k⟩,
    decodeTrain_eq_of_bits (.inl (by simp [hlen])) fun k => ⟨_, ?_, hbits k⟩⟩
  have hk : 4 + 2 * k.val < (encodeTrain w f).length - 1 := by omega
  rw [List.getElem?_dropLast, if_pos hk, encodeTrain_data]

end Sys2Proof.Machine
end

section
/-! PROOFS. A pass over the line of a train (41_pulse_sampler.md R93, R95, R97): `Pass` measures the train it is shown. -/

namespace Sys2Proof.Machine

/-! ### The line of a train -/

/-- The level n ticks after the line began to show a train at level lvl. -/
def levelAt (lvl : Bool) (t : List Nat) (n : Nat) : Bool :=
  ((trainLevels lvl t)[n]?).getD (lvl == (t.length % 2 == 0))

theorem waveOfTrain_eq_levelAt (t : List Nat) : waveOfTrain t = levelAt true t := by
  funext n
  rw [waveOfTrain, levelAt, Bool.true_beq]

theorem levelAt_nil (lvl : Bool) (n : Nat) : levelAt lvl [] n = lvl := by cases lvl <;> rfl

/-- The first entry of a train is the time its first level lasts. -/
theorem levelAt_cons_of_lt (lvl : Bool) {d n : Nat} (t : List Nat) (h : n < d) : levelAt lvl (d :: t) n = lvl := by
  simp [levelAt, trainLevels, List.getElem?_append, h]

/-- The tick that completes the first transition shows the other level. -/
theorem levelAt_cons_self (lvl : Bool) (d : Nat) (t : List Nat) : levelAt lvl (d :: t) d = !lvl := by
  simp [levelAt, trainLevels]

/-- After the first transition the line shows the rest of the train from the other level on. -/
theorem levelAt_cons_add (lvl : Bool) (d : Nat) (t : List Nat) (n : Nat) :
    levelAt lvl (d :: t) (d + 1 + n) = levelAt (!lvl) t n := by
  have hlast : (lvl == ((t.length + 1) % 2 == 0)) = ((!lvl) == (t.length % 2 == 0)) := by
    rcases Nat.mod_two_eq_zero_or_one t.length with h | h <;> simp [Nat.add_mod, h]
  have hpos : d + 1 + n - d = n + 1 := by omega
  have hge : ¬ d + 1 + n < d := by omega
  rw [levelAt, levelAt, List.length_cons, hlast]
  simp [trainLevels, List.getElem?_append, hge, hpos]

/-! ### The loop of `Pass` -/

variable {p : Params} {wave : Nat → Bool} {lvl : Bool} {dur n k : Nat}

/-- While the level stays and `dur` does not saturate, the loop counts (R92). -/
theorem passLoop_steady (fuel : Nat) (train : List Nat) (hlevel : ∀ j < k, wave (n + j) = lvl)
    (hdur : dur + k < p.timeoutCount) :
    passLoop p wave (fuel + k) lvl dur train n = passLoop p wave fuel lvl (dur + k) train (n + k) := by
  induction k generalizing dur n with
  | zero => rfl
  | succ k ih =>
    have hlevel' (j : Nat) (hj : j < k) : wave (n + 1 + j) = lvl := by
      rw [Nat.add_right_comm]
      exact hlevel (j + 1) (by omega)
    have hnow : wave n = lvl := hlevel 0 k.succ_pos
    rw [← Nat.add_assoc, passLoop, if_pos hnow, if_neg (by omega), ih hlevel' (by omega)]
    congr 1 <;> omega

/-- A level that stays until `dur` saturates ends the pass (R95). -/
theorem passLoop_timeout (fuel : Nat) (train : List Nat) (hlevel : ∀ j < k + 1, wave (n + j) = lvl)
    (hdur : dur + (k + 1) = p.timeoutCount) :
    passLoop p wave (fuel + (k + 1)) lvl dur train n = some { train := train, ended := .timeout, ticks := n + (k + 1) } := by
  rw [Nat.add_comm k, ← Nat.add_assoc, passLoop_steady _ _ (fun j hj => hlevel j (by omega)) (by omega), passLoop,
    if_pos (hlevel k (by omega)), if_pos (by omega)]
  congr 2; omega

/-- A level that lasts d ticks gives the entry d, unless the cap is reached (R93, R94). -/
theorem passLoop_entry {d : Nat} (fuel : Nat) (train : List Nat) (hlevel : ∀ j < d, wave (n + j) = lvl)
    (hchange : wave (n + d) = !lvl) (hd : d < p.timeoutCount) (hcap : train.length + 1 ≠ p.maxTransitions) :
    passLoop p wave (fuel + (d + 1)) lvl 0 train n = passLoop p wave fuel (!lvl) 0 (train ++ [d]) (n + (d + 1)) := by
  rw [Nat.add_comm d, ← Nat.add_assoc, passLoop_steady _ _ hlevel (by omega), passLoop, hchange,
    if_neg (Bool.not_ne_self lvl), if_neg hcap, Nat.zero_add]
  congr 1; omega

/-- On the line of a train that keeps below the cap the loop measures the train and then times out. -/
theorem passLoop_train (fuel : Nat) (done t : List Nat) (hwave : ∀ j, wave (n + j) = levelAt lvl t j)
    (hshort : ∀ d ∈ t, d < p.timeoutCount) (hlen : (done ++ t).length < p.maxTransitions) (hpos : 0 < p.timeoutCount) :
    passLoop p wave (fuel + (trainTicks t + p.timeoutCount)) lvl 0 done n =
      some { train := done ++ t, ended := .timeout, ticks := n + (trainTicks t + p.timeoutCount) } := by
  induction t generalizing lvl done n with
  | nil =>
    obtain ⟨k, hk⟩ := Nat.exists_eq_add_one.2 hpos
    have hlevel (j : Nat) (_ : j < k + 1) : wave (n + j) = lvl := (hwave j).trans (levelAt_nil lvl j)
    rw [trainTicks, Nat.zero_add, List.append_nil, hk, passLoop_timeout fuel done hlevel (by omega)]
  | cons d t ih =>
    have hlevel (j : Nat) (hj : j < d) : wave (n + j) = lvl := (hwave j).trans (levelAt_cons_of_lt lvl t hj)
    have hchange : wave (n + d) = !lvl := (hwave d).trans (levelAt_cons_self lvl d t)
    have hrest (j : Nat) : wave (n + (d + 1) + j) = levelAt (!lvl) t j := by
      rw [Nat.add_assoc, hwave, levelAt_cons_add]
    have hlen' : (done ++ [d] ++ t).length < p.maxTransitions := by simpa using hlen
    have hcap : done.length + 1 ≠ p.maxTransitions := by
      simp only [List.length_append, List.length_singleton] at hlen'
      omega
    have hfuel : fuel + (trainTicks (d :: t) + p.timeoutCount) = fuel + (trainTicks t + p.timeoutCount) + (d + 1) := by
      rw [trainTicks]; omega
    rw [hfuel, passLoop_entry _ done hlevel hchange (hshort d List.mem_cons_self) hcap,
      ih (done ++ [d]) hrest (fun e he => hshort e (List.mem_cons_of_mem d he)) hlen', List.append_assoc, trainTicks]
    congr 2; omega

theorem trainTicks_le {bound : Nat} (t : List Nat) (h : ∀ d ∈ t, d < bound) : trainTicks t ≤ t.length * bound := by
  induction t with
  | nil => exact Nat.zero_le _
  | cons d t ih =>
    have hd := h d List.mem_cons_self
    have ht := ih fun e he => h e (List.mem_cons_of_mem d he)
    rw [trainTicks, List.length_cons, Nat.succ_mul]
    omega

/-- A train below the cap is measured as it is, and the level that stays after it ends the pass (R93, R95). -/
theorem pass_waveOfTrain (c : Config) (t : List Nat) (hshort : ∀ d ∈ t, d < c.timeoutCount)
    (hlen : t.length < c.maxTransitions) : pass c.toParams (waveOfTrain t) =
      some { train := t, ended := .timeout, ticks := trainTicks t + c.timeoutCount } := by
  have hfuel : trainTicks t + c.timeoutCount ≤ c.maxTransitions * c.timeoutCount :=
    calc trainTicks t + c.timeoutCount ≤ t.length * c.timeoutCount + c.timeoutCount :=
          Nat.add_le_add_right (trainTicks_le t hshort) _
      _ = (t.length + 1) * c.timeoutCount := (Nat.succ_mul _ _).symm
      _ ≤ c.maxTransitions * c.timeoutCount := Nat.mul_le_mul_right _ hlen
  obtain ⟨fuel, hfuel⟩ := Nat.exists_eq_add_of_le' hfuel
  have hwave (j : Nat) : waveOfTrain t (0 + j) = levelAt true t j := by rw [Nat.zero_add, waveOfTrain_eq_levelAt]
  rw [pass, hfuel, passLoop_train fuel [] t hwave hshort hlen (Nat.zero_lt_of_lt c.timeout_ge), Nat.zero_add,
    List.nil_append]

end Sys2Proof.Machine
end

section
/-! PROOFS. A read that misses, from its acceptance to its response (44_commands.md R142): the driven phases (R86), the
SAMPLE phase as `Pass` (R99), the EVAL tick (R113, R114), and the run on the line of a frame's train (R71). -/

namespace Sys2Proof.Machine

variable {s u v : State} {j k n : Nat}

/-! ### Runs inside one read -/

theorem runTicks_concat (h : runTicks k s = .next u) (hu : step u = .next v) : runTicks (k + 1) s = .next v := by
  rw [runTicks_add h, runTicks_succ hu]; rfl

/-- A run sees the inputs its first state saw, k ticks on. -/
theorem inputsAt_runTicks (h : runTicks k s = .next u) (j : Nat) : inputsAt u j = inputsAt s (k + j) := by
  induction k generalizing s with
  | zero => cases h; rw [Nat.zero_add]
  | succ k ih =>
    obtain ⟨v, hv, hrun⟩ := runTicks_succ_inv h
    rw [ih hrun, inputsAt_step hv, Nat.add_right_comm]

theorem NoReset.mono (hn : NoReset s n) (h : k ≤ n) : NoReset s k := fun j hj => hn j (hj.trans_le h)

theorem NoReset.after_run (h : runTicks k s = .next u) (hn : NoReset s (k + n)) : NoReset u n := fun j hj => by
  rw [inputsAt_runTicks h]
  exact hn (k + j) (by omega)

/-- A run of k ticks that leaves alone what a read holds until its EVAL tick: the command's selector and time,
LastReading, the Warm flag and the response. -/
structure HeldRun (k : Nat) (s u : State) : Prop where
  run       : runTicks k s = .next u
  cfg       : u.cfg = s.cfg
  sel       : u.sel = s.sel
  tsNew     : u.tsNew = s.tsNew
  lr        : u.lr = s.lr
  lrTs      : u.lrTs = s.lrTs
  warm      : u.warm = s.warm
  rspStatus : u.rspStatus = s.rspStatus
  rspValue  : u.rspValue = s.rspValue

theorem HeldRun.refl (s : State) : HeldRun 0 s s := ⟨rfl, rfl, rfl, rfl, rfl, rfl, rfl, rfl, rfl⟩

theorem HeldRun.trans (h : HeldRun j s u) (h' : HeldRun k u v) : HeldRun (j + k) s v where
  run       := (runTicks_add h.run k).trans h'.run
  cfg       := h'.cfg.trans h.cfg
  sel       := h'.sel.trans h.sel
  tsNew     := h'.tsNew.trans h.tsNew
  lr        := h'.lr.trans h.lr
  lrTs      := h'.lrTs.trans h.lrTs
  warm      := h'.warm.trans h.warm
  rspStatus := h'.rspStatus.trans h.rspStatus
  rspValue  := h'.rspValue.trans h.rspValue

/-- One tick of a driven phase or of SAMPLE is such a run. -/
theorem TickCase.heldRun (h : TickCase s u) (hr : s.inp.rst = false) (hi : s.phase ≠ .idle) (he : s.phase ≠ .eval) :
    HeldRun 1 s (advanceInputs u) := by
  have hrun : runTicks 1 s = .next (advanceInputs u) := runTicks_succ (step_of_case h) 0
  cases h with
  | reset hr' => rw [hr] at hr'; cases hr'
  | wait _ hp => exact absurd hp hi
  | init ha | reserved ha | hit _ ha | miss _ ha => exact absurd ha.phase_eq hi
  | success _ hp | failure _ _ hp => exact absurd hp he
  | count | toResetlow | toRelease | toSample | countLevel | timeout =>
    exact ⟨hrun, rfl, rfl, rfl, rfl, rfl, rfl, rfl, rfl⟩
  | transition | cap =>
    constructor
    · exact hrun
    all_goals simp

/-! ### The driven phases -/

theorem Driven.ne_idle {p : Phase} (h : Driven p) : p ≠ .idle := fun e => not_driven (.inl e) h

theorem Driven.ne_eval {p : Phase} (h : Driven p) : p ≠ .eval := fun e => not_driven (.inr (.inr e)) h

/-- Inside a driven phase `TMR` counts the ticks (R81 to R83). -/
theorem driven_count (hp : Driven s.phase) (hk : s.tmr + k < drivenTicks s.cfg.toParams s.phase) (hn : NoReset s k) :
    ∃ u, HeldRun k s u ∧ u.phase = s.phase ∧ u.tmr = s.tmr + k := by
  induction k generalizing s with
  | zero => exact ⟨s, .refl s, rfl, rfl⟩
  | succ k ih =>
    have hr : s.inp.rst = false := hn 0 k.succ_pos
    have hlimit := drivenTicks_le_limit s.cfg s.phase
    have hc : TickCase s (countTmr s) := .count hr hp (by omega) (by omega)
    have hk' : s.tmr + 1 + k < drivenTicks s.cfg.toParams s.phase := by omega
    obtain ⟨u, hrun, hpu, htu⟩ := ih (s := advanceInputs (countTmr s)) hp hk' (noReset_step (step_of_case hc) hn)
    refine ⟨u, Nat.add_comm 1 k ▸ (hc.heldRun hr hp.ne_idle hp.ne_eval).trans hrun, hpu, ?_⟩
    rw [htu]
    exact Nat.add_right_comm _ 1 k

/-- A driven phase entered with `TMR` = 0 lasts its number of ticks, the last of which is `next`. -/
theorem driven_run {p : Phase} {c : Config} {next : State → State} (hd : Driven p) (hp : s.phase = p) (hcfg : s.cfg = c)
    (ht : s.tmr = 0) (hn : NoReset s (drivenTicks c.toParams p))
    (hnext : ∀ u, u.inp.rst = false → u.phase = p → u.tmr < u.cfg.timerLimit →
      u.tmr = drivenTicks u.cfg.toParams p - 1 → TickCase u (next u)) :
    ∃ u, HeldRun (drivenTicks c.toParams p) s (advanceInputs (next u)) := by
  subst hp hcfg
  have hlimit := drivenTicks_le_limit s.cfg s.phase
  obtain ⟨last, hlast⟩ := Nat.exists_eq_add_one.2 (drivenTicks_pos s.cfg hd)
  rw [hlast] at hn ⊢
  obtain ⟨u, hrun, hpu, htu⟩ := driven_count (k := last) hd (by omega) (hn.mono (Nat.le_succ _))
  rw [ht, Nat.zero_add] at htu
  have hr : u.inp.rst = false := hn.after_run hrun.run 0 Nat.one_pos
  have hc : TickCase u (next u) := hnext u hr hpu (by rw [htu, hrun.cfg]; omega) (by rw [htu, hrun.cfg, hlast]; rfl)
  exact ⟨u, hrun.trans (hc.heldRun hr (hpu ▸ hd.ne_idle) (hpu ▸ hd.ne_eval))⟩

/-- From the start of SETTLE to the start of the pass (R86). -/
theorem driven_phases (hp : s.phase = .settle) (ht : s.tmr = 0)
    (hn : NoReset s (s.cfg.settleTicks + s.cfg.resetTicks + s.cfg.releaseTicks)) :
    ∃ u, HeldRun (s.cfg.settleTicks + s.cfg.resetTicks + s.cfg.releaseTicks) s
      (advanceInputs { enterSample u with rspValid := false }) := by
  have hn' : NoReset s (s.cfg.settleTicks + s.cfg.resetTicks) := hn.mono (Nat.le_add_right _ _)
  obtain ⟨a, ha⟩ := driven_run (next := enterDriven .resetlow) (.inl rfl) hp rfl ht (hn'.mono (Nat.le_add_right _ _))
    (fun _ => .toResetlow)
  obtain ⟨b, hb⟩ := driven_run (next := enterDriven .release) (.inr (.inl rfl)) rfl ha.cfg rfl (hn'.after_run ha.run)
    (fun _ => .toRelease)
  have hab := ha.trans hb
  obtain ⟨c, hc⟩ := driven_run (next := fun u => { enterSample u with rspValid := false }) (.inr (.inr rfl)) rfl hab.cfg
    rfl (hn.after_run hab.run) (fun _ => .toSample)
  exact ⟨c, hab.trans hc⟩

/-! ### The SAMPLE phase is `Pass` -/

/-- The registers of the sampler and decoder in SAMPLE when the transitions so far are those of a train (R98). -/
structure Sampled (s : State) (train : List Nat) : Prop where
  phase   : s.phase = .sample
  tidx    : s.tidx = train.length
  decoded : (s.buf, s.nbits) = decodeTrain s.cfg.threshold train
  durLt   : s.dur < s.cfg.timeoutCount
  tidxLt  : s.tidx < s.cfg.maxTransitions

/-- What a pass leaves for the EVAL tick (R99). -/
structure PassEnded (r : PassResult) (s : State) : Prop where
  phase    : s.phase = .eval
  timedOut : s.timedOut = (r.ended == .timeout)
  tidx     : s.tidx = r.train.length
  decoded  : (s.buf, s.nbits) = decodeTrain s.cfg.threshold r.train

/-- A run of k ticks in SAMPLE that ends the pass r at its last tick. -/
structure SampleRun (r : PassResult) (k : Nat) (s u : State) : Prop extends HeldRun k s u, PassEnded r u where
  tmr     : u.tmr = s.tmr
  between : ∀ j, 1 ≤ j → j < k → ∃ v, runTicks j s = .next v ∧ v.phase = .sample

theorem Sampled.start (s : State) : Sampled (advanceInputs { enterSample s with rspValid := false }) [] :=
  ⟨rfl, rfl, rfl, Nat.zero_lt_of_lt s.cfg.timeout_ge, s.cfg.maxTransitions_pos⟩

theorem nbits_le_of_decoded {th : Nat} {t : List Nat} (h : (s.buf, s.nbits) = decodeTrain th t) : s.nbits ≤ 41 := by
  have hn : s.nbits = (decodeTrain th t).2 := congrArg Prod.snd h
  rw [hn, decodeTrain_nbits]
  exact dataCount_le _

theorem Sampled.not_stuck {train : List Nat} (h : Sampled s train) : sampleStuck s = none :=
  (sampleStuck_eq_none_iff s).2 ⟨h.durLt.le, h.tidxLt.le, nbits_le_of_decoded h.decoded⟩

theorem Sampled.heldRun {train : List Nat} (h : Sampled s train) (hr : s.inp.rst = false) (hc : TickCase s u) :
    HeldRun 1 s (advanceInputs u) :=
  hc.heldRun hr (by rw [h.phase]; decide) (by rw [h.phase]; decide)

/-- The Bit Decoder takes the completed transition as `Decode` takes the next entry (R94, R98). -/
theorem Sampled.decoded_transition {train : List Nat} (h : Sampled s train) :
    ((completeTransition s).buf, (completeTransition s).nbits) = decodeTrain s.cfg.threshold (train ++ [s.dur]) := by
  rw [decodeTrain_concat, ← h.decoded, ← h.tidx, decodeEntry_eq]
  rfl

theorem Sampled.after_countDur {train : List Nat} (h : Sampled s train) (hd : s.dur + 1 ≠ s.cfg.timeoutCount) :
    Sampled (advanceInputs (countDur s)) train where
  phase   := h.phase
  tidx    := h.tidx
  decoded := h.decoded
  durLt   := Nat.lt_of_le_of_ne h.durLt hd
  tidxLt  := h.tidxLt

theorem Sampled.after_transition {train : List Nat} (h : Sampled s train) (hm : s.tidx + 1 ≠ s.cfg.maxTransitions) :
    Sampled (advanceInputs (completeTransition s)) (train ++ [s.dur]) where
  phase   := (completeTransition_phase s).trans h.phase
  tidx    := by simp [h.tidx]
  decoded := by
    rw [advanceInputs_cfg, completeTransition_cfg]
    exact h.decoded_transition
  durLt   := by
    rw [advanceInputs_cfg, completeTransition_cfg]
    exact Nat.zero_lt_of_lt s.cfg.timeout_ge
  tidxLt  := by
    rw [advanceInputs_cfg, completeTransition_cfg]
    exact Nat.lt_of_le_of_ne h.tidxLt hm

/-- A SAMPLE tick before a run that ends the pass. -/
theorem SampleRun.cons {r : PassResult} (h : SampleRun r k v u) (hrun : HeldRun 1 s v) (hp : v.phase = .sample)
    (ht : v.tmr = s.tmr) : SampleRun r (1 + k) s u where
  toHeldRun := hrun.trans h.toHeldRun
  toPassEnded := h.toPassEnded
  tmr := h.tmr.trans ht
  between := by
    intro j hj hjk
    obtain ⟨j, rfl⟩ := Nat.exists_eq_add_of_le hj
    rw [runTicks_add hrun.run]
    cases j with
    | zero => exact ⟨v, rfl, hp⟩
    | succ j => exact h.between (j + 1) (by omega) (by omega)

/-- A run of one tick has no tick between its ends. -/
theorem SampleRun.single {r : PassResult} (h : HeldRun 1 s u) (he : PassEnded r u) (ht : u.tmr = s.tmr) :
    SampleRun r 1 s u :=
  { h, he with tmr := ht, between := fun j hj hj' => by omega }

/-- No reset comes and the sampler sees the wave, from its n-th tick to before its m-th. -/
def SeesWave (wave : Nat → Bool) (n m : Nat) (s : State) : Prop :=
  ∀ j, n + j < m → (inputsAt s j).rst = false ∧ (inputsAt s j).lineIn = wave (n + j)

theorem SeesWave.after_tick {wave : Nat → Bool} {m : Nat} (h : SeesWave wave n m s) (hrun : HeldRun 1 s u) :
    SeesWave wave (n + 1) m u := by
  intro j hj
  rw [inputsAt_runTicks hrun.run, Nat.add_assoc n]
  exact h (1 + j) (by omega)

/-- The loop of `Pass` takes at least one tick. -/
theorem lt_ticks_of_passLoop {p : Params} {wave : Nat → Bool} {fuel dur : Nat} {cur : Bool} {train : List Nat}
    {r : PassResult} (h : passLoop p wave fuel cur dur train n = some r) : n < r.ticks := by
  induction fuel generalizing cur dur train n with
  | zero => cases h
  | succ fuel ih =>
    rw [passLoop] at h
    split at h
    · split at h
      · cases h; exact n.lt_succ_self
      · exact (n.lt_succ_self).trans (ih h)
    · split at h
      · cases h; exact n.lt_succ_self
      · exact (n.lt_succ_self).trans (ih h)

/-- The SAMPLE phase runs the loop of `Pass`, one tick a round (R91, R99). -/
theorem sampleRun_of_passLoop {wave : Nat → Bool} {fuel : Nat} {train : List Nat} {r : PassResult}
    (hs : Sampled s train) (hloop : passLoop s.cfg.toParams wave fuel s.cur s.dur train n = some r)
    (hw : SeesWave wave n r.ticks s) : ∃ k u, n + k = r.ticks ∧ SampleRun r k s u := by
  induction fuel generalizing s train n with
  | zero => cases hloop
  | succ fuel ih =>
    obtain ⟨hr, hline⟩ : s.inp.rst = false ∧ s.inp.lineIn = wave n := hw 0 (lt_ticks_of_passLoop hloop)
    rw [passLoop, ← hline, ← hs.tidx] at hloop
    split at hloop
    · next hl =>
      split at hloop
      · next hd =>
        cases hloop
        exact ⟨1, _, rfl, .single (hs.heldRun hr (.timeout hr hs.phase hs.not_stuck hl hd))
          ⟨rfl, rfl, hs.tidx, hs.decoded⟩ rfl⟩
      · next hd =>
        have hrun := hs.heldRun hr (.countLevel hr hs.phase hs.not_stuck hl hd)
        obtain ⟨k, u, hk, hu⟩ := ih (hs.after_countDur hd) hloop (hw.after_tick hrun)
        exact ⟨1 + k, u, by omega, hu.cons hrun hs.phase rfl⟩
    · next hl =>
      split at hloop
      · next hm =>
        cases hloop
        refine ⟨1, _, rfl, .single (hs.heldRun hr (.cap hr hs.phase hs.not_stuck hl hm))
          ⟨rfl, rfl, by simp [hs.tidx], ?_⟩ (completeTransition_tmr s)⟩
        rw [advanceInputs_cfg, endByCap_cfg, completeTransition_cfg]
        exact hs.decoded_transition
      · next hm =>
        have hrun := hs.heldRun hr (.transition hr hs.phase hs.not_stuck hl hm)
        have hs' := hs.after_transition hm
        have hloop' : passLoop (advanceInputs (completeTransition s)).cfg.toParams wave fuel s.inp.lineIn 0
            (train ++ [s.dur]) (n + 1) = some r := by
          rw [advanceInputs_cfg, completeTransition_cfg]
          exact hloop
        obtain ⟨k, u, hk, hu⟩ := ih hs' hloop' (hw.after_tick hrun)
        exact ⟨1 + k, u, by omega, hu.cons hrun hs'.phase (completeTransition_tmr s)⟩

/-- From the start of a pass to its EVAL tick (R99). -/
theorem sampleRun_of_pass {wave : Nat → Bool} {r : PassResult} (hs : Sampled s []) (hcur : s.cur = true) (hdur : s.dur = 0)
    (hpass : pass s.cfg.toParams wave = some r) (hw : SeesWave wave 0 r.ticks s) : ∃ u, SampleRun r r.ticks s u := by
  have hloop : passLoop s.cfg.toParams wave (s.cfg.maxTransitions * s.cfg.timeoutCount) s.cur s.dur [] 0 = some r := by
    rw [hcur, hdur]
    exact hpass
  obtain ⟨k, u, hk, hu⟩ := sampleRun_of_passLoop hs hloop hw
  rw [Nat.zero_add] at hk
  exact ⟨u, hk ▸ hu⟩

/-! ### The run of a read -/

theorem PassEnded.verdict_eq {r : PassResult} (h : PassEnded r s) :
    verdict s.nbits s.timedOut s.buf = trainVerdict s.cfg.threshold r := by
  rw [trainVerdict, ← h.decoded, ← h.timedOut]

section
variable {sel : Bool} {wave : Nat → Bool} {r : PassResult} (ha : Accepts s (readOf sel)) (hm : Misses s)
  (hpass : pass s.cfg.toParams wave = some r)
  (hwave : ∀ n < r.ticks, waveFrom s (passStart s.cfg.toParams) n = wave n)
  (hn : NoReset s (passStart s.cfg.toParams + r.ticks + 1))
include ha hm hpass hwave hn

/-- A read that misses comes to its EVAL tick with the pass on the line behind it; from the acceptance on, its selector
and time are held and LastReading and the response are as they were (R86, R99, R142). -/
theorem read_to_eval : ∃ k u, runTicks (passStart s.cfg.toParams + r.ticks) s = .next u ∧
    HeldRun k (advanceInputs (startRun sel (sampledTime s) s)) u ∧ PassEnded r u ∧ u.inp.rst = false := by
  have hstart : runTicks 1 s = .next (advanceInputs (startRun sel (sampledTime s) s)) :=
    runTicks_succ (step_of_case (.miss sel ha ((hit_eq_false_iff s).2 hm))) 0
  have hone : 1 + (s.cfg.settleTicks + s.cfg.resetTicks + s.cfg.releaseTicks) = passStart s.cfg.toParams := Nat.add_comm 1 _
  have hn' : NoReset s (passStart s.cfg.toParams) := hn.mono (by omega)
  rw [← hone] at hn'
  obtain ⟨b, hb⟩ := driven_phases rfl rfl (hn'.after_run hstart)
  have hentry : runTicks (passStart s.cfg.toParams) s = .next (advanceInputs { enterSample b with rspValid := false }) := by
    rw [← hone, runTicks_add hstart]
    exact hb.run
  have hw : SeesWave wave 0 r.ticks (advanceInputs { enterSample b with rspValid := false }) := by
    intro j hj
    rw [Nat.zero_add] at hj ⊢
    rw [inputsAt_runTicks hentry]
    exact ⟨hn _ (by omega), hwave j hj⟩
  obtain ⟨u, hu⟩ := sampleRun_of_pass (Sampled.start b) rfl rfl (hb.cfg ▸ hpass) hw
  have hend := (runTicks_add hentry r.ticks).trans hu.run
  exact ⟨_, u, hend, hb.trans hu.toHeldRun, hu.toPassEnded, NoReset.after_run hend hn 0 Nat.one_pos⟩

/-- A read whose pass gives a frame: the frame's value is the response, and the frame is LastReading (R113, R142). -/
theorem read_succeeds (hv : trainVerdict s.cfg.threshold r = none) :
    ∃ s', runTicks (passStart s.cfg.toParams + r.ticks + 1) s = .next s' ∧ cmdReady s' = true ∧ s'.rspValid = true ∧
      s'.cfg = s.cfg ∧ s'.rspStatus = .ok ∧
      s'.rspValue = value s.cfg.model sel (decodeTrain s.cfg.threshold r.train).1 ∧
      s'.lr = (decodeTrain s.cfg.threshold r.train).1 ∧ s'.lrTs = sampledTime s ∧ s'.warm = true := by
  obtain ⟨k, u, hrun, hheld, hend, hr⟩ := read_to_eval ha hm hpass hwave hn
  have hcfg : u.cfg = s.cfg := hheld.cfg
  have hbuf : u.buf = (decodeTrain s.cfg.threshold r.train).1 := hcfg ▸ congrArg Prod.fst hend.decoded
  have hc := TickCase.success hr hend.phase (hend.verdict_eq.trans (hcfg ▸ hv))
  refine ⟨_, runTicks_concat hrun (step_of_case hc), rfl, rfl, hcfg, rfl, ?_, hbuf, hheld.tsNew, rfl⟩
  show value u.cfg.model u.sel u.buf = _
  rw [hcfg, hbuf, hheld.sel]
  rfl

/-- A read whose pass fails a check: the kind's code is the response, and LastReading is as it was (R114, R142). -/
theorem read_fails {kind : FailKind} (hv : trainVerdict s.cfg.threshold r = some kind) :
    ∃ s', runTicks (passStart s.cfg.toParams + r.ticks + 1) s = .next s' ∧ cmdReady s' = true ∧ s'.rspValid = true ∧
      s'.cfg = s.cfg ∧ s'.rspStatus = kind.status ∧ s'.rspValue = nan16 ∧ s'.lr = s.lr ∧ s'.lrTs = s.lrTs ∧
      s'.warm = s.warm := by
  obtain ⟨k, u, hrun, hheld, hend, hr⟩ := read_to_eval ha hm hpass hwave hn
  have hcfg : u.cfg = s.cfg := hheld.cfg
  have hc := TickCase.failure kind hr hend.phase (nbits_le_of_decoded hend.decoded) (hend.verdict_eq.trans (hcfg ▸ hv))
  exact ⟨_, runTicks_concat hrun (step_of_case hc), rfl, rfl, hcfg, rfl, rfl, hheld.lr, hheld.lrTs, hheld.warm⟩

end

/-! ### The run on the line of a frame -/

/-- Every duration of `Encode` is below the timeout (R71). -/
theorem encodeTrain_lt {p : Params} {w : PulseWidths} (hw : w.wf p = true) (f : Frame) :
    ∀ d ∈ encodeTrain w f, d < p.timeoutCount := by
  obtain ⟨-, -, h0, h1, h2, h3, hsep, hzero, hone⟩ := (PulseWidths.wf_iff p w).1 hw
  intro d hd
  simp only [encodeTrain, List.mem_append, List.mem_cons, List.not_mem_nil, or_false, List.mem_flatMap] at hd
  obtain (rfl | rfl | rfl | rfl) | ⟨k, -, rfl | rfl⟩ := hd
  · exact h0
  · exact h1
  · exact h2
  · exact h3
  · split
    · exact hone
    · exact hzero
  · exact hsep

/-- The verdict on a frame's train is the frame's checksum (R112). -/
theorem trainVerdict_encodeTrain {p : Params} {w : PulseWidths} (hw : w.wf p = true) (f : Frame) (e : Ended) (n : Nat) :
    trainVerdict p.threshold { train := encodeTrain w f, ended := e, ticks := n } =
      if checksumOk f then none else some .checksum := by
  obtain ⟨hdecode, -⟩ := decodeOfEncodeIsTheFrame p w f hw
  rw [trainVerdict, hdecode]
  rfl

theorem checksumOk_iff (f : Frame) : checksumOk f = true ↔
    f.byte4.toNat = (f.byte0.toNat + f.byte1.toNat + f.byte2.toNat + f.byte3.toNat) % 256 := beq_iff_eq

/-- Settles O51: the pass measures the train of the frame, which decodes to the frame, and the checksum decides. -/
theorem encodedFrameIsRead : Obligations.EncodedFrameIsRead := by
  intro s sel w f ha hm hw hcap P hline hn
  have hpass : pass s.cfg.toParams (waveOfTrain (encodeTrain w f)) =
      some { train := encodeTrain w f, ended := .timeout, ticks := P } :=
    pass_waveOfTrain s.cfg _ (encodeTrain_lt hw f) hcap
  obtain ⟨hdecode, -⟩ := decodeOfEncodeIsTheFrame s.cfg.toParams w f hw
  have hverdict := trainVerdict_encodeTrain hw f .timeout P
  split
  · next hck =>
    rw [if_pos ((checksumOk_iff f).2 hck)] at hverdict
    obtain ⟨s', hrun, hready, hvalid, -, hresult⟩ := read_succeeds ha hm hpass hline hn hverdict
    rw [hdecode] at hresult
    exact ⟨s', hrun, hvalid, hready, hresult⟩
  · next hck =>
    rw [if_neg (mt (checksumOk_iff f).1 hck)] at hverdict
    obtain ⟨s', hrun, hready, hvalid, -, hresult⟩ := read_fails ha hm hpass hline hn hverdict
    exact ⟨s', hrun, hvalid, hready, hresult⟩

end Sys2Proof.Machine
end

section
/-! PROOFS. The line driver (40_line_driver.md): the ticks of the driven phases (R81 to R84) and their timeline from the
acceptance of a read that misses to the first tick of its pass (R86). -/

namespace Sys2Proof.Machine

variable {s u : State} {k m : Nat} {p : Phase}

/-! ### One tick -/

/-- A tick of a driven phase with `TMR` in range: the phase's last one does `last`, every other one counts. -/
theorem step_driven {last : State} (hd : Driven p) (hr : s.inp.rst = false) (hl : s.tmr < s.cfg.timerLimit)
    (hp : s.phase = p) (hlast : s.tmr = drivenTicks s.cfg.toParams p - 1 → TickCase s last) :
    step s = .next (advanceInputs (if s.tmr = drivenTicks s.cfg.toParams p - 1 then last else countTmr s)) := by
  subst hp
  split
  · next ht => exact step_of_case (hlast ht)
  · next ht => exact step_of_case (.count hr hd hl ht)

/-- Settles O16: the ticks of SETTLE and RESETLOW are those of a driven phase, and the last one enters the next. -/
theorem drivenTicksCount : Obligations.DrivenTicksCount := fun _ hr hl =>
  ⟨fun hp => step_driven (.inl rfl) hr hl hp (.toResetlow hr hp hl),
    fun hp => step_driven (.inr (.inl rfl)) hr hl hp (.toRelease hr hp hl)⟩

/-- Settles O17: the ticks of RELEASE are those of a driven phase, and the last one is `EnterSample`. -/
theorem releaseEntersSample : Obligations.ReleaseEntersSample := fun _ hr hl hp =>
  step_driven (.inr (.inr rfl)) hr hl hp (.toSample hr hp hl)

/-! ### The timeline -/

/-- The phase k ticks after the start of SETTLE, up to the start of the pass (R86). -/
def drivenPhaseAt (c : Params) (k : Nat) : Phase :=
  if k < c.settleTicks then .settle else if k < c.settleTicks + c.resetTicks then .resetlow else .release

/-- The block is in the phase with no response at the ports, k ticks on from a state. -/
def QuietAt (p : Phase) (k : Nat) (s : State) : Prop :=
  ∃ u, runTicks k s = .next u ∧ u.rspValid = false ∧ u.phase = p

theorem QuietAt.after_run (h : QuietAt p k u) (hrun : runTicks m s = .next u) : QuietAt p (m + k) s := by
  obtain ⟨v, hv, hquiet⟩ := h
  exact ⟨v, (runTicks_add hrun k).trans hv, hquiet⟩

/-- A driven phase entered with `TMR` = 0 and no response is held, without a response, at each of its ticks. -/
theorem quietAt_of_driven (hd : Driven s.phase) (ht : s.tmr = 0) (hv : s.rspValid = false) (hn : NoReset s k)
    (hk : k < drivenTicks s.cfg.toParams s.phase) : QuietAt s.phase k s := by
  cases k with
  | zero => exact ⟨s, rfl, hv, rfl⟩
  | succ j =>
    have hlimit := drivenTicks_le_limit s.cfg s.phase
    obtain ⟨u, hrun, hpu, htu⟩ := driven_count (k := j) hd (by omega) (hn.mono j.le_succ)
    have hr : u.inp.rst = false := hn.after_run hrun.run 0 Nat.one_pos
    have hc : TickCase u (countTmr u) :=
      .count hr (hpu ▸ hd) (by rw [hrun.cfg]; omega) (by rw [hrun.cfg, hpu]; omega)
    exact ⟨_, runTicks_concat hrun.run (step_of_case hc), rfl, hpu⟩

/-- The same for a phase entered in the course of a run that holds the configuration. -/
theorem HeldRun.quietAt (h : HeldRun m s u) (hd : Driven u.phase) (ht : u.tmr = 0) (hv : u.rspValid = false)
    (hn : NoReset s k) (hm : m ≤ k) (hk : k < m + drivenTicks s.cfg.toParams u.phase) : QuietAt u.phase k s := by
  obtain ⟨j, rfl⟩ := Nat.exists_eq_add_of_le hm
  exact (quietAt_of_driven hd ht hv (hn.after_run h.run) (by rw [h.cfg]; omega)).after_run h.run

/-- Each of the ticks from the start of SETTLE to the start of the pass is in its phase, without a response (R86). -/
theorem quietAt_drivenPhaseAt (hp : s.phase = .settle) (ht : s.tmr = 0) (hv : s.rspValid = false)
    (hn : NoReset s k) (hk : k < s.cfg.settleTicks + s.cfg.resetTicks + s.cfg.releaseTicks) :
    QuietAt (drivenPhaseAt s.cfg.toParams k) k s := by
  rw [drivenPhaseAt]
  split
  · next hS => exact hp ▸ quietAt_of_driven (.inl hp) ht hv hn (hp ▸ hS)
  · next hS =>
    rw [not_lt] at hS
    obtain ⟨a, ha⟩ := driven_run (next := enterDriven .resetlow) (.inl rfl) hp rfl ht (hn.mono hS) (fun _ => .toResetlow)
    split
    · next hR => exact ha.quietAt (.inr (.inl rfl)) rfl rfl hn hS hR
    · next hR =>
      rw [not_lt] at hR
      obtain ⟨b, hb⟩ := driven_run (next := enterDriven .release) (.inr (.inl rfl)) rfl ha.cfg rfl
        ((hn.mono hR).after_run ha.run) (fun _ => .toRelease)
      exact (ha.trans hb).quietAt (.inr (.inr rfl)) rfl rfl hn hR hk

/-- Settles O18: the tick of the acceptance starts SETTLE, and the driven phases follow with no response until
`EnterSample`. -/
theorem drivenPartTimeline : Obligations.DrivenPartTimeline := by
  intro s sel ha hm hn S R L
  have hstart : runTicks 1 s = .next (advanceInputs (startRun sel (sampledTime s) s)) :=
    runTicks_succ (step_of_case (.miss sel ha ((hit_eq_false_iff s).2 hm))) 0
  have hn' : NoReset (advanceInputs (startRun sel (sampledTime s) s)) (S + R + L) :=
    NoReset.after_run hstart (hn.mono (Nat.add_comm 1 _).le)
  constructor
  · intro k hk hkN
    obtain ⟨k, rfl⟩ := Nat.exists_eq_add_of_le hk
    have hlt : k < S + R + L := by omega
    obtain ⟨u, hrun, hquiet, hphase⟩ : QuietAt (drivenPhaseAt s.cfg.toParams k) (1 + k) s :=
      (quietAt_drivenPhaseAt rfl rfl rfl (hn'.mono hlt.le) hlt).after_run hstart
    refine ⟨u, hrun, hquiet, ?_⟩
    rw [hphase, drivenPhaseAt]
    simp only [Nat.lt_iff_add_one_le, Nat.add_comm k 1, S, R]
  · obtain ⟨b, hb⟩ := driven_phases rfl rfl hn'
    have hrun : runTicks (S + R + L + 1) s = .next (advanceInputs { enterSample b with rspValid := false }) := by
      rw [Nat.add_comm, runTicks_add hstart]
      exact hb.run
    exact ⟨_, hrun, rfl, rfl, rfl, rfl, rfl, rfl, rfl, hb.sel, hb.tsNew, hb.lr, hb.lrTs, hb.warm, hb.rspStatus,
      hb.rspValue, hb.cfg, inputsAt_runTicks hrun⟩

end Sys2Proof.Machine
end

section
/-! PROOFS. The pulse sampler (41_pulse_sampler.md): the SAMPLE tick (R91), the bits decoded as the transitions complete
(R98), what a pass gives and how long it takes (R93 to R97, R100), and the SAMPLE phase as a pass (R99). -/

namespace Sys2Proof.Machine

variable {s u : State}

/-! ### The tick -/

/-- Settles O19: the four cases of a SAMPLE tick with its registers in range. -/
theorem sampleTickPollsOnce : Obligations.SampleTickPollsOnce := by
  intro s hr hp hdur htidx hnbits
  have hn : sampleStuck s = none := (sampleStuck_eq_none_iff s).2 ⟨hdur, htidx, hnbits⟩
  constructor
  · intro hl
    split
    · next hd => exact step_of_case (.timeout hr hp hn hl hd)
    · next hd => exact step_of_case (.countLevel hr hp hn hl hd)
  · intro hl d
    split
    · next hm => exact step_of_case (.cap hr hp hn hl hm)
    · next hm => exact step_of_case (.transition hr hp hn hl hm)

/-! ### The streamed decoder -/

/-- From any contents of the buffer on, the Bit Decoder leaves what `Decode`'s loop gives for the rest of the train. -/
theorem streamTrain_eq (i : Nat) (t : List Nat) (s : State) :
    streamTrain i t s = { s with buf   := (decodeFrom s.cfg.threshold (s.buf, s.nbits) i t).1
                                 nbits := (decodeFrom s.cfg.threshold (s.buf, s.nbits) i t).2 } := by
  induction t generalizing i s with
  | nil => rfl
  | cons d t ih =>
    rw [streamTrain, ih, decodeFrom, decodeEntry_eq, decodeTransition_cfg, decodeTransition_eq]

/-- Settles O22: an empty buffer is where `Decode` starts. -/
theorem streamedDecoderIsDecode : Obligations.StreamedDecoderIsDecode := by
  intro s train hbuf hnbits
  rw [streamTrain_eq, hbuf, hnbits, decodeTrain]

/-! ### What a pass gives -/

/-- A pass keeps to the cap and the timeout, and its length is the sum of R97. -/
structure Measured (p : Params) (r : PassResult) : Prop where
  short   : ∀ d ∈ r.train, d < p.timeoutCount
  timeout : r.ended = .timeout → r.train.length < p.maxTransitions ∧ r.ticks = trainTicks r.train + p.timeoutCount
  cap     : r.ended = .cap → r.train.length = p.maxTransitions ∧ r.ticks = trainTicks r.train

/-- What the loop of `Pass` keeps from round to round: the ticks gone are those of the train and of the level being
timed, and the fuel suffices for as many more full-length transitions as the cap allows. -/
structure Looping (p : Params) (fuel dur : Nat) (train : List Nat) (n : Nat) : Prop where
  short  : ∀ d ∈ train, d < p.timeoutCount
  durLt  : dur < p.timeoutCount
  lenLt  : train.length < p.maxTransitions
  ticks  : n = trainTicks train + dur
  enough : (p.maxTransitions - train.length) * p.timeoutCount ≤ fuel + dur

theorem trainTicks_concat (t : List Nat) (d : Nat) : trainTicks (t ++ [d]) = trainTicks t + (d + 1) := by
  rw [trainTicks_append]; rfl

theorem length_le_trainTicks (t : List Nat) : t.length ≤ trainTicks t := by
  induction t with
  | nil => exact Nat.le_refl 0
  | cons d t ih =>
    rw [trainTicks, List.length_cons]
    omega

section
variable {p : Params} {fuel dur n : Nat} {train : List Nat}

theorem Looping.short_concat (h : Looping p fuel dur train n) : ∀ d ∈ train ++ [dur], d < p.timeoutCount := by
  intro d hd
  rcases List.mem_append.1 hd with hd | hd
  · exact h.short d hd
  · rw [List.mem_singleton.1 hd]
    exact h.durLt

theorem Looping.ticks_concat (h : Looping p fuel dur train n) : n + 1 = trainTicks (train ++ [dur]) := by
  rw [trainTicks_concat, h.ticks, Nat.add_assoc]

theorem Looping.fuel_pos (h : Looping p fuel dur train n) : fuel ≠ 0 := by
  rintro rfl
  have hone : 1 * p.timeoutCount ≤ (p.maxTransitions - train.length) * p.timeoutCount :=
    Nat.mul_le_mul_right _ (Nat.sub_pos_of_lt h.lenLt)
  have := h.durLt
  have := h.enough
  omega

/-- A round that counts (R92). -/
theorem Looping.count (h : Looping p (fuel + 1) dur train n) (hd : dur + 1 ≠ p.timeoutCount) :
    Looping p fuel (dur + 1) train (n + 1) where
  short  := h.short
  durLt  := Nat.lt_of_le_of_ne h.durLt hd
  lenLt  := h.lenLt
  ticks  := congrArg (· + 1) h.ticks
  enough := Nat.add_right_comm fuel 1 dur ▸ h.enough

/-- A round that completes a transition below the cap (R94). -/
theorem Looping.transition (h : Looping p (fuel + 1) dur train n) (hm : train.length + 1 ≠ p.maxTransitions) :
    Looping p fuel 0 (train ++ [dur]) (n + 1) where
  short  := h.short_concat
  durLt  := Nat.zero_lt_of_lt h.durLt
  lenLt  := by
    rw [List.length_append]
    exact Nat.lt_of_le_of_ne h.lenLt hm
  ticks  := h.ticks_concat
  enough := by
    have hone : p.maxTransitions - train.length = p.maxTransitions - (train.length + 1) + 1 := by
      have := h.lenLt
      omega
    have := h.durLt
    have := h.enough
    rw [hone, Nat.succ_mul] at this
    rw [List.length_append, List.length_singleton]
    omega

/-- The loop ends before its fuel does, and what it gives is within the bounds. -/
theorem exists_passLoop (wave : Nat → Bool) (cur : Bool) (h : Looping p fuel dur train n) :
    ∃ r, passLoop p wave fuel cur dur train n = some r ∧ Measured p r := by
  induction fuel generalizing cur dur train n with
  | zero => exact absurd rfl h.fuel_pos
  | succ fuel ih =>
    rw [passLoop]
    split
    · split
      · next hd =>
        refine ⟨_, rfl, h.short, fun _ => ⟨h.lenLt, ?_⟩, nofun⟩
        show n + 1 = trainTicks train + p.timeoutCount
        rw [h.ticks, Nat.add_assoc, hd]
      · next hd => exact ih cur (h.count hd)
    · split
      · next hm =>
        refine ⟨_, rfl, h.short_concat, nofun, fun _ => ⟨?_, h.ticks_concat⟩⟩
        rw [List.length_append]
        exact hm
      · next hm => exact ih (wave n) (h.transition hm)

end

theorem Looping.start (c : Config) : Looping c.toParams (c.maxTransitions * c.timeoutCount) 0 [] 0 where
  short  := nofun
  durLt  := Nat.zero_lt_of_lt c.timeout_ge
  lenLt  := c.maxTransitions_pos
  ticks  := rfl
  enough := Nat.le_refl _

/-- The bounds of R97 on the length of a pass. -/
theorem Measured.ticks_bounds {p : Params} {r : PassResult} (h : Measured p r) :
    min p.timeoutCount p.maxTransitions ≤ r.ticks ∧ r.ticks ≤ p.maxTransitions * p.timeoutCount := by
  have hle := trainTicks_le r.train h.short
  have hge := length_le_trainTicks r.train
  cases hend : r.ended with
  | timeout =>
    obtain ⟨hlen, hticks⟩ := h.timeout hend
    have hmul : (r.train.length + 1) * p.timeoutCount ≤ p.maxTransitions * p.timeoutCount := Nat.mul_le_mul_right _ hlen
    rw [Nat.succ_mul] at hmul
    omega
  | cap =>
    obtain ⟨hlen, hticks⟩ := h.cap hend
    rw [hlen] at hle hge
    omega

/-- Settles O26: the loop keeps `Looping`, so it ends with a result that is `Measured`. -/
theorem everyPassEnds : Obligations.EveryPassEnds := by
  intro c wave
  obtain ⟨r, hr, hm⟩ := exists_passLoop wave true (Looping.start c)
  obtain ⟨hmin, hmax⟩ := hm.ticks_bounds
  exact ⟨r, hr, hmin, hmax, hm.short, hm.timeout, hm.cap⟩

/-! ### A train of the cap's length -/

section
variable {p : Params} {wave : Nat → Bool} {lvl : Bool} {n : Nat}

/-- A level that lasts d ticks ends the pass with the entry d if that reaches the cap (R96). -/
theorem passLoop_cap {d : Nat} (fuel : Nat) (train : List Nat) (hlevel : ∀ j < d, wave (n + j) = lvl)
    (hchange : wave (n + d) = !lvl) (hd : d < p.timeoutCount) (hcap : train.length + 1 = p.maxTransitions) :
    passLoop p wave (fuel + (d + 1)) lvl 0 train n =
      some { train := train ++ [d], ended := .cap, ticks := n + (d + 1) } := by
  rw [Nat.add_comm d, ← Nat.add_assoc, passLoop_steady _ _ hlevel (by omega), passLoop, hchange,
    if_neg (Bool.not_ne_self lvl), if_pos hcap, Nat.zero_add]
  congr 2; omega

/-- On a line that shows a train up to its last transition, the loop measures it and ends by the cap it reaches. -/
theorem passLoop_fullTrain (fuel : Nat) (done t : List Nat) (hwave : ∀ j < trainTicks t, wave (n + j) = levelAt lvl t j)
    (hshort : ∀ d ∈ t, d < p.timeoutCount) (hlen : (done ++ t).length = p.maxTransitions) (hne : t ≠ []) :
    passLoop p wave (fuel + trainTicks t) lvl 0 done n =
      some { train := done ++ t, ended := .cap, ticks := n + trainTicks t } := by
  induction t generalizing lvl done n with
  | nil => exact absurd rfl hne
  | cons d t ih =>
    rw [trainTicks] at hwave ⊢
    have hd : d < p.timeoutCount := hshort d List.mem_cons_self
    have hlevel (j : Nat) (hj : j < d) : wave (n + j) = lvl :=
      (hwave j (by omega)).trans (levelAt_cons_of_lt lvl t hj)
    have hchange : wave (n + d) = !lvl := (hwave d (by omega)).trans (levelAt_cons_self lvl d t)
    by_cases ht : t = []
    · subst ht
      have hcap : done.length + 1 = p.maxTransitions := by simpa using hlen
      exact passLoop_cap fuel done hlevel hchange hd hcap
    · have hlen' : (done ++ [d] ++ t).length = p.maxTransitions := by simpa using hlen
      have hcap : done.length + 1 ≠ p.maxTransitions := by
        have := List.length_pos_of_ne_nil ht
        simp only [List.length_append, List.length_singleton] at hlen'
        omega
      have hrest (j : Nat) (hj : j < trainTicks t) : wave (n + (d + 1) + j) = levelAt (!lvl) t j := by
        rw [Nat.add_assoc, hwave _ (by omega), levelAt_cons_add]
      have hfuel : fuel + (d + 1 + trainTicks t) = fuel + trainTicks t + (d + 1) := by omega
      rw [hfuel, passLoop_entry _ done hlevel hchange hd hcap,
        ih (done ++ [d]) hrest (fun e he => hshort e (List.mem_cons_of_mem d he)) hlen' ht, List.append_assoc,
        Nat.add_assoc n]
      rfl

end

/-- A train of the cap's length is measured as it is, whatever the line does after it (R93, R96). -/
theorem pass_fullTrain (c : Config) {wave : Nat → Bool} (t : List Nat)
    (hwave : ∀ j < trainTicks t, wave j = waveOfTrain t j) (hshort : ∀ d ∈ t, d < c.timeoutCount)
    (hlen : t.length = c.maxTransitions) :
    pass c.toParams wave = some { train := t, ended := .cap, ticks := trainTicks t } := by
  obtain ⟨fuel, hfuel⟩ := Nat.exists_eq_add_of_le' (hlen ▸ trainTicks_le t hshort)
  have hwave' (j : Nat) (hj : j < trainTicks t) : wave (0 + j) = levelAt true t j := by
    rw [Nat.zero_add, hwave j hj, waveOfTrain_eq_levelAt]
  have hne : t ≠ [] := List.ne_nil_of_length_pos (hlen ▸ c.maxTransitions_pos)
  rw [pass, hfuel, passLoop_fullTrain fuel [] t hwave' hshort hlen hne, Nat.zero_add, List.nil_append]

/-- Settles O27: below the cap the level that stays after the train ends the pass, at the cap its last transition. -/
theorem passMeasuresTheTrain : Obligations.PassMeasuresTheTrain := fun c t hshort =>
  ⟨pass_waveOfTrain c t hshort, pass_fullTrain c t (fun _ _ => rfl) hshort⟩

/-! ### Corner cases -/

theorem waveOfTrain_nil : waveOfTrain [] = fun _ => true := rfl

theorem waveOfTrain_zero : waveOfTrain [0] = fun _ => false := by
  funext n
  cases n <;> rfl

/-- The line of a train of zeros flips at every tick. -/
theorem levelAt_zeros (lvl : Bool) {m j : Nat} (h : j < m) :
    levelAt lvl (List.replicate m 0) j = (lvl == (j % 2 == 1)) := by
  induction m generalizing lvl j with
  | zero => exact absurd h j.not_lt_zero
  | succ m ih =>
    rw [List.replicate_succ]
    cases j with
    | zero => rw [levelAt_cons_self]; cases lvl <;> rfl
    | succ j =>
      rw [Nat.add_comm j 1, ← Nat.zero_add 1, levelAt_cons_add, ih _ (Nat.lt_of_succ_lt_succ h)]
      rcases Nat.mod_two_eq_zero_or_one j with hj | hj <;> cases lvl <;> simp [Nat.add_mod, hj]

theorem trainTicks_zeros (m : Nat) : trainTicks (List.replicate m 0) = m := by
  induction m with
  | zero => rfl
  | succ m ih => rw [List.replicate_succ, trainTicks, ih, Nat.zero_add, Nat.add_comm]

/-- A line that flips at every tick from low on gives zeros up to the cap (R100). -/
theorem pass_flipping (c : Config) : pass c.toParams (fun n => n % 2 == 1) =
    some { train := List.replicate c.maxTransitions 0, ended := .cap, ticks := c.maxTransitions } := by
  have hwave (j : Nat) (hj : j < trainTicks (List.replicate c.maxTransitions 0)) :
      (j % 2 == 1) = waveOfTrain (List.replicate c.maxTransitions 0) j := by
    rw [trainTicks_zeros] at hj
    rw [waveOfTrain_eq_levelAt, levelAt_zeros true hj, Bool.true_beq]
  have hshort (d : Nat) (hd : d ∈ List.replicate c.maxTransitions 0) : d < c.timeoutCount := by
    rw [List.eq_of_mem_replicate hd]
    exact Nat.zero_lt_of_lt c.timeout_ge
  rw [pass_fullTrain c _ hwave hshort List.length_replicate, trainTicks_zeros]

/-- A train too short for 40 bits reports how its pass ended (R110). -/
theorem trainVerdict_of_length_le (th : Nat) {r : PassResult} (h : r.train.length ≤ 82) :
    trainVerdict th r = some (if r.ended == .timeout then .timeout else .shortFrame) := by
  have hn : (decodeTrain th r.train).2 < 40 := by
    rw [decodeTrain_nbits, dataCount_eq]
    omega
  rw [trainVerdict, verdict, if_pos hn]

/-- A train with more than 40 bits is a long frame (R111). -/
theorem trainVerdict_of_le_length (th : Nat) {r : PassResult} (h : 85 ≤ r.train.length) :
    trainVerdict th r = some .longFrame := by
  have hn : 40 < (decodeTrain th r.train).2 := by
    rw [decodeTrain_nbits, dataCount_eq]
    omega
  rw [trainVerdict, verdict, if_neg hn.not_gt, if_pos hn]

/-- Settles O28: the first two lines are those of the trains [] and [0], and the reports follow from the lengths. -/
theorem passCornerCases : Obligations.PassCornerCases := by
  intro c
  have htime : 0 < c.timeoutCount := Nat.zero_lt_of_lt c.timeout_ge
  refine ⟨?_, fun hcap => ?_, pass_flipping c, fun th => ⟨?_, ?_, ?_⟩⟩
  · rw [← waveOfTrain_nil, pass_waveOfTrain c [] nofun c.maxTransitions_pos, trainTicks, Nat.zero_add]
  · rw [← waveOfTrain_zero, pass_waveOfTrain c [0] (by simpa using htime) hcap, Nat.add_comm]
    rfl
  · exact trainVerdict_of_length_le th (by decide)
  · exact trainVerdict_of_length_le th (by decide)
  · exact trainVerdict_of_le_length th (by rw [List.length_replicate])

/-! ### The SAMPLE phase -/

/-- A run that ends a pass leaves SAMPLE at its last tick. -/
theorem SampleRun.last {r : PassResult} {k : Nat} (h : SampleRun r (k + 1) s u) (hp : s.phase = .sample) :
    ∃ v, v.phase = .sample ∧ step v = .next u := by
  obtain ⟨v, hv, hpv⟩ : ∃ v, runTicks k s = .next v ∧ v.phase = .sample := by
    cases k with
    | zero => exact ⟨s, rfl, hp⟩
    | succ k => exact h.between (k + 1) (by omega) (by omega)
  obtain ⟨w, hw, hu⟩ := runTicks_succ_inv ((runTicks_add hv 1).symm.trans h.run)
  cases hu
  exact ⟨v, hpv, hw⟩

/-- A SAMPLE tick completes no command (R27). -/
theorem not_completes_of_sample (hp : s.phase = .sample) : ¬ Completes s := by
  rintro ⟨-, he | ⟨hi, -⟩⟩
  · cases hp.symm.trans he
  · cases hp.symm.trans hi

theorem SampleRun.rspValid_eq_false {r : PassResult} {k : Nat} (h : SampleRun r (k + 1) s u) (hp : s.phase = .sample) :
    u.rspValid = false := by
  obtain ⟨v, hpv, hstep⟩ := h.last hp
  exact Bool.eq_false_iff.2 (mt (responseValidMarksCompletion v u hstep).1.1 (not_completes_of_sample hpv))

/-- Settles O29: the registers at the start are those of the empty train, and the phase runs as `sampleRun_of_pass`. -/
theorem samplePhaseIsPass : Obligations.SamplePhaseIsPass := by
  intro s r hp hcur hdur htidx hnbits _ hbuf hpass hn
  have hs : Sampled s [] := {
    phase   := hp
    tidx    := htidx
    decoded := by rw [hbuf, hnbits]; rfl
    durLt   := hdur ▸ Nat.zero_lt_of_lt s.cfg.timeout_ge
    tidxLt  := htidx ▸ s.cfg.maxTransitions_pos }
  have hw : SeesWave (waveFrom s 0) 0 r.ticks s := by
    intro j hj
    rw [Nat.zero_add] at hj
    exact ⟨hn j hj, by rw [waveFrom, Nat.zero_add, Nat.zero_add]⟩
  obtain ⟨u, hu⟩ := sampleRun_of_pass hs hcur hdur hpass hw
  obtain ⟨k, hk⟩ := Nat.exists_eq_add_one.2 (lt_ticks_of_passLoop hpass)
  have hvalid : u.rspValid = false := (hk ▸ hu).rspValid_eq_false hp
  exact ⟨hu.between, u, hu.run, hu.phase, hu.timedOut, hu.tidx, hu.cfg ▸ hu.decoded, hvalid, hu.cfg, hu.sel, hu.tsNew,
    hu.tmr, hu.lr, hu.lrTs, hu.warm, hu.rspStatus, hu.rspValue⟩

end Sys2Proof.Machine
end

section
/-! PROOFS. The bit decoder and the frame assembler (42_decoder_assembler.md): the classification of a transition (R107,
R108), the EVAL tick's three checks in their order (R109 to R114), and the values of the SIMPLE layout (R115). -/

namespace Sys2Proof.Machine

variable {s : State}

/-! ### The classification of a transition -/

theorem decodeTransition_of_isData {i : Nat} (hi : isData i = true) (d : Nat) (s : State) :
    decodeTransition i d s = shiftIn (bitOf s.cfg.threshold d) s := if_pos hi

theorem decodeTransition_of_not_isData {i : Nat} (hi : ¬ isData i = true) (d : Nat) (s : State) :
    decodeTransition i d s = s := if_neg hi

/-- Settles O20: the index decides whether a bit is shifted in, the threshold which one. -/
theorem transitionIsClassified : Obligations.TransitionIsClassified := by
  intro s i d
  refine ⟨fun h4 he hd => ?one, fun h4 he hd => ?zero, fun h4 => ?lead, fun ho => ?separator⟩
  case one => rw [decodeTransition_of_isData ((isData_iff i).2 ⟨h4, he⟩), bitOf, decide_eq_true hd]
  case zero => rw [decodeTransition_of_isData ((isData_iff i).2 ⟨h4, he⟩), bitOf, decide_eq_false hd.not_gt]
  case lead => exact decodeTransition_of_not_isData (by rw [isData_iff]; omega) d s
  case separator => exact decodeTransition_of_not_isData (by rw [isData_iff]; omega) d s

/-! ### The verdict of the EVAL tick -/

/-- Too few bits: how the pass ended says which failure it is, whatever the buffer holds (R110). -/
theorem verdict_of_lt {n : Nat} (h : n < 40) (timedOut : Bool) (f : Frame) :
    verdict n timedOut f = some (if timedOut then .timeout else .shortFrame) := if_pos h

/-- Too many bits (R111). -/
theorem verdict_of_gt {n : Nat} (h : 40 < n) (timedOut : Bool) (f : Frame) : verdict n timedOut f = some .longFrame := by
  rw [verdict, if_neg h.not_gt, if_pos h]

/-- Only a frame of exactly 40 bits has its checksum looked at (R112). -/
theorem verdict_forty (timedOut : Bool) (f : Frame) :
    verdict 40 timedOut f = if checksumOk f then none else some .checksum := rfl

/-- Settles O35: below 83 and above 84 entries by the lengths alone (R110, R111); 83 and 84 entries give 40 bits. -/
theorem wrongLengthTrainsFail : Obligations.WrongLengthTrainsFail := by
  intro th r
  refine ⟨fun h => ?_, trainVerdict_of_le_length th, fun h => ?_⟩
  · simp only [trainVerdict_of_length_le th h, beq_iff_eq]
  · obtain ⟨-, -, hbits, -⟩ := trainLengthGivesBitCount th r.train
    rw [trainVerdict, hbits h, verdict_forty]

/-! ### The EVAL tick -/

/-- Settles O30: 40 bits and the checksum are what the verdict asks for, and success does the seven writes of `Commit`. -/
theorem evalSuccessCommits : Obligations.EvalSuccessCommits := fun _ hr hp hn hck =>
  step_of_case (.success hr hp ((verdict_eq_none_iff _ _ _).2 ⟨hn, (checksumOk_iff _).2 hck⟩))

/-- All the writes of an EVAL tick that fails: the response and the phase (R114). -/
theorem step_of_verdict_some {k : FailKind} (hr : s.inp.rst = false) (hp : s.phase = .eval) (hn : s.nbits ≤ 41)
    (hv : verdict s.nbits s.timedOut s.buf = some k) :
    step s = .next (advanceInputs
      { s with rspStatus := k.status, rspValue := nan16, rspValid := true, phase := .idle }) :=
  step_of_case (.failure k hr hp hn hv)

/-- Settles O31: in each case the verdict names the first check that fails. -/
theorem evalFailureReportsOneKind : Obligations.EvalFailureReportsOneKind := by
  intro s hr hp failed
  refine ⟨fun hn ht => ?timeout, fun hn ht => ?short, fun hn => ?long, fun hn hck => ?checksum⟩
  case timeout => exact step_of_verdict_some hr hp (by omega) (by rw [verdict_of_lt hn, ht, if_pos rfl])
  case short => exact step_of_verdict_some hr hp (by omega) (by rw [verdict_of_lt hn, ht, if_neg Bool.false_ne_true])
  case long => exact step_of_verdict_some hr hp hn.le (verdict_of_gt (by omega) _ _)
  case checksum =>
    exact step_of_verdict_some hr hp (by omega) (by rw [hn, verdict_forty, if_neg (mt (checksumOk_iff s.buf).1 hck)])

/-! ### The SIMPLE layout -/

/-- Settles O32: extending a byte with zeros to the 16 bits of the response keeps its number. -/
theorem simpleValuesAreBytes : Obligations.SimpleValuesAreBytes := fun f =>
  have hle : 8 ≤ 16 := by decide
  ⟨BitVec.toNat_setWidth_of_le (b := f.byte0) hle, BitVec.toNat_setWidth_of_le (b := f.byte2) hle⟩

end Sys2Proof.Machine
end

section
/-! PROOFS. The reading cache (43_reading_cache.md): the throttle check as an interval of times (R126), a read within it
answered from LastReading (R128), a read outside it that starts a run (R129, R130), and the check as time moves forward
(R132). -/

namespace Sys2Proof.Machine

variable {s s' : State} {sel : Bool}

/-! ### The throttle check -/

/-- Settles O7: for a time from `LR_TS` on, the rule's difference bounds it exactly to before the interval's end. -/
theorem hitIsTheInterval : Obligations.HitIsTheInterval := fun s t =>
  (hit_eq_true_iff s t).trans
    (and_congr_right fun _ => and_congr_right fun hle => Nat.sub_lt_iff_lt_add' hle)

/-- Settles O48: a later hit would put the earlier time, not below `LR_TS` either, into the interval as well. -/
theorem hitStaysFalseAsTimeMovesOn : Obligations.HitStaysFalseAsTimeMovesOn := by
  intro s u t t' hstart hmiss hle hlrTs hwarm hcfg
  by_contra hhit
  obtain ⟨hw, -, hbefore⟩ := (hitIsTheInterval u t').1 (Bool.eq_true_of_not_eq_false hhit)
  rw [hlrTs, hcfg] at hbefore
  rw [hwarm] at hw
  obtain hcold | hfrom := hstart
  · exact Bool.false_ne_true (hcold.symm.trans hw)
  · have hearlier : hit s t = true := (hitIsTheInterval s t).2 ⟨hw, hfrom, hle.trans_lt hbefore⟩
    exact Bool.false_ne_true (hmiss.symm.trans hearlier)

/-! ### One read -/

theorem readCommand_of_hit (h : hit s (sampledTime s) = true) : readCommand sel s = cacheHit sel s := if_pos h

theorem readCommand_of_misses (h : Misses s) : readCommand sel s = startRun sel (sampledTime s) s := by
  rw [readCommand, (hit_eq_false_iff s).2 h]
  rfl

/-- Settles O5: the premises are those of the throttle check, and the read is a cache hit. -/
theorem readHitAnswersFromLastReading : Obligations.ReadHitAnswersFromLastReading := by
  intro sel s hwarm hfrom hwithin
  rw [exec_readOf, readCommand_of_hit ((hit_eq_true_iff s _).2 ⟨hwarm, hfrom, hwithin⟩)]
  rfl

/-- The selector a run latches is the bit `cmd_op[1]` of the read's word (R60, R139). -/
theorem selectorBit_readOf (sel : Bool) : selectorBit (encode (readOf sel)) = sel := by
  cases sel <;> rfl

/-- Settles O6: the read misses, and starts a run with its own selector. -/
theorem readMissStartsRun : Obligations.ReadMissStartsRun := by
  intro sel s hm
  rw [exec_readOf, readCommand_of_misses hm, selectorBit_readOf]
  rfl

/-! ### One read after another -/

theorem eq_of_hit_step (ha : Accepts s (readOf sel)) (hh : hit s (sampledTime s) = true) (h : step s = .next s') :
    s' = advanceInputs (cacheHit sel s) :=
  Host.Outcome.next.inj (h.symm.trans (step_of_case (.hit sel ha hh)))

theorem lineOe_of_idle (h : s.phase = .idle) : lineOe s = false := by
  rw [lineOe, h]

/-- Settles O47: both hits answer from the same LastReading, which the first one leaves as it was, and stay in IDLE. -/
theorem consecutiveHitsAgree : Obligations.ConsecutiveHitsAgree := by
  intro s s1 s2 sel ha hh h ha1 hh1 h1
  obtain rfl := eq_of_hit_step ha hh h
  obtain rfl := eq_of_hit_step ha1 hh1 h1
  exact ⟨rfl, rfl, rfl, rfl, rfl, lineOe_of_idle ha.phase_eq, lineOe_of_idle ha1.phase_eq,
    lineOe_of_idle ha1.phase_eq⟩

/-- Settles O53: a failed run leaves `LR_TS`, the Warm flag and the configuration as the read that missed found them. -/
theorem noHitAfterFailedRun : Obligations.NoHitAfterFailedRun := by
  intro s sel r k ha hm hstart hpass hv hn
  obtain ⟨s', hrun, -, hvalid, hcfg, hstatus, -, -, hlrTs, hwarm⟩ := read_fails ha hm hpass (fun _ _ => rfl) hn hv
  have hmiss : hit s (sampledTime s) = false := (hit_eq_false_iff s).2 hm
  exact ⟨s', hrun, hvalid, hstatus, fun t' hle =>
    hitStaysFalseAsTimeMovesOn s s' _ t' hstart hmiss hle hlrTs hwarm hcfg⟩

end Sys2Proof.Machine
end

section
/-! PROOFS. The commands (44_commands.md): `INIT` (R136), the reserved word (R140), an IDLE tick with no command (R141), and
a read that misses, tick by tick from its acceptance to its response (R142). -/

namespace Sys2Proof.Machine

variable {s u v : State} {k : Nat}

/-! ### The commands of one tick -/

theorem exec_init (s : State) : exec .init s = .next (initCommand s) := rfl

theorem exec_rsvd (s : State) : exec .rsvd s = .next (reservedCommand s) := rfl

theorem cmdReady_eq_true_iff (s : State) : cmdReady s = true ↔ s.phase = .idle := beq_iff_eq

/-- Settles O3: `INIT` writes `WARM` and the response only, so the phase stays the IDLE it was accepted in. -/
theorem initMakesCold : Obligations.InitMakesCold := by
  refine ⟨exec_init, fun s s' ha => ⟨(cmdReady_eq_true_iff s).2 ha.phase_eq, fun h => ?_⟩⟩
  obtain rfl : initCommand s = s' := Host.Outcome.next.inj ((exec_init s).symm.trans h)
  have hp : (initCommand s).phase = .idle := (initCommand_phase s).trans ha.phase_eq
  exact ⟨hp, lineOe_of_idle hp⟩

/-- Settles O4: the reserved word takes the failure BAD_CMD, which writes the response only. -/
theorem reservedWordAnswersBadCmd : Obligations.ReservedWordAnswersBadCmd := ⟨exec_rsvd, rfl⟩

/-- Settles O9: the case `wait` of the tick, then the next inputs. -/
theorem idleWithoutCommandWaits : Obligations.IdleWithoutCommandWaits := fun _ hr hp hc =>
  step_of_case (.wait hr hp hc)

/-! ### A read that misses, tick by tick -/

/-- The last step of a run whose other steps are known. -/
theorem step_of_runTicks_succ (hv : runTicks k s = .next v) (hu : runTicks (k + 1) s = .next u) : step v = .next u := by
  obtain ⟨w, hw, hwu⟩ := runTicks_succ_inv ((runTicks_add hv 1).symm.trans hu)
  cases hwu
  exact hw

/-- The tick that accepts a read that misses completes nothing (R27, R139). -/
theorem not_completes_of_miss {sel : Bool} (ha : Accepts s (readOf sel)) (hm : Misses s) : ¬ Completes s :=
  mt (rspValid_iff_completes (.miss sel ha ((hit_eq_false_iff s).2 hm))).2 Bool.false_ne_true

section
variable {sel : Bool} {r : PassResult} (ha : Accepts s (readOf sel)) (hm : Misses s)
  (hpass : pass s.cfg.toParams (waveFrom s (passStart s.cfg.toParams)) = some r)
  (hn : NoReset s (passStart s.cfg.toParams + r.ticks + 1))
include ha hm hpass hn

/-- Between the acceptance and the EVAL tick the block is in a driven phase (R86) or in SAMPLE (R99). -/
theorem read_before_eval (hk : 1 ≤ k) (hlt : k < passStart s.cfg.toParams + r.ticks) :
    ∃ u, runTicks k s = .next u ∧ u.phase ≠ .idle ∧ u.phase ≠ .eval := by
  obtain ⟨hdriven, w, hrun, hp, hcur, hdur, htidx, hnbits, hto, hbuf, -, -, -, -, -, -, -, hcfg, hinputs⟩ :=
    drivenPartTimeline s sel ha hm (hn.mono (by omega))
  rcases Nat.lt_or_ge k (passStart s.cfg.toParams) with hbefore | hfrom
  · obtain ⟨u, hu, -, hpu⟩ := hdriven k hk (Nat.le_of_lt_succ hbefore)
    refine ⟨u, hu, ?_⟩
    rw [hpu]
    split_ifs <;> decide
  · obtain ⟨j, rfl⟩ := Nat.exists_eq_add_of_le hfrom
    have hwave : waveFrom w 0 = waveFrom s (passStart s.cfg.toParams) :=
      funext fun n => congrArg Inputs.lineIn ((hinputs _).trans (by rw [Nat.zero_add]; rfl))
    have hnw : NoReset w r.ticks := NoReset.after_run hrun (hn.mono (Nat.le_succ _))
    obtain ⟨hsample, -⟩ := samplePhaseIsPass w r hp hcur hdur htidx hnbits hto hbuf (by rw [hcfg, hwave, hpass]) hnw
    obtain ⟨u, hu, hpu⟩ : ∃ u, runTicks j w = .next u ∧ u.phase = .sample := by
      cases j with
      | zero => exact ⟨w, rfl, hp⟩
      | succ j => exact hsample (j + 1) (by omega) (by omega)
    exact ⟨u, (runTicks_add hrun j).trans hu, by rw [hpu]; decide, by rw [hpu]; decide⟩

/-- No tick of the read before its EVAL tick completes a command (R27). -/
theorem read_not_completes (hlt : k < passStart s.cfg.toParams + r.ticks) :
    ∃ u, runTicks k s = .next u ∧ ¬ Completes u := by
  cases k with
  | zero => exact ⟨s, rfl, not_completes_of_miss ha hm⟩
  | succ k =>
    obtain ⟨u, hu, hi, he⟩ := read_before_eval ha hm hpass hn k.succ_pos hlt
    exact ⟨u, hu, not_completes_of_phase rfl hi he⟩

/-- From the tick after its acceptance to its EVAL tick the read keeps the block busy, without a response (R142). -/
theorem read_busy (hk : 1 ≤ k) (hle : k ≤ passStart s.cfg.toParams + r.ticks) :
    ∃ u, runTicks k s = .next u ∧ busy u = true ∧ u.rspValid = false := by
  obtain ⟨u, hu, hi⟩ : ∃ u, runTicks k s = .next u ∧ u.phase ≠ .idle := by
    rcases Nat.lt_or_eq_of_le hle with hlt | rfl
    · obtain ⟨u, hu, hi, -⟩ := read_before_eval ha hm hpass hn hk hlt
      exact ⟨u, hu, hi⟩
    · obtain ⟨-, u, hu, -, hend, -⟩ := read_to_eval ha hm hpass (fun _ _ => rfl) hn
      exact ⟨u, hu, by rw [hend.phase]; decide⟩
  obtain ⟨j, rfl⟩ := Nat.exists_eq_add_of_le' hk
  obtain ⟨v, hv, hc⟩ := read_not_completes ha hm hpass hn (k := j) hle
  have hvalid := (responseValidMarksCompletion v u (step_of_runTicks_succ hv hu)).1
  exact ⟨u, hu, (busy_eq_true_iff u).2 hi, Bool.eq_false_iff.2 (mt hvalid.1 hc)⟩

end

/-- Settles O50: busy without a response up to the EVAL tick, which answers by the verdict on the train of the pass. -/
theorem readRunCompletes : Obligations.ReadRunCompletes := by
  intro s sel r ha hm hpass hn
  refine ⟨fun k => read_busy ha hm hpass hn, ?_⟩
  cases hv : trainVerdict s.cfg.threshold r with
  | none => exact read_succeeds ha hm hpass (fun _ _ => rfl) hn hv
  | some kind => exact read_fails ha hm hpass (fun _ _ => rfl) hn hv

end Sys2Proof.Machine
end

section
/-! PROOFS. The exceptions (60_exceptions.md): the block is never stuck and never hangs (R168), and elaboration refuses a
configuration outside the constraints of 00_scope.md R6 (R157). -/

namespace Sys2Proof.Machine

variable {s u : State} {f : Fault}

/-! ### Never stuck -/

/-- Each way to stop needs a register out of its range, and the invariant keeps every register in range (R39). -/
theorem BlockInv.not_faultCase (hi : BlockInv s) : ¬ FaultCase s f := by
  intro hf
  cases hf with
  | timer hr hp hl => exact ((hi.driven hp).trans_le (drivenTicks_le_limit _ _)).not_ge hl
  | sampler f hr hp hn =>
    obtain ⟨hdur, htidx, hnbits, -⟩ := hi.sampling hp
    have hfree : sampleStuck s = none :=
      (sampleStuck_eq_none_iff s).2 ⟨hdur.le, htidx.le, hnbits ▸ dataCount_le _⟩
    cases hfree.symm.trans hn
  | bits hr hp hn =>
    obtain ⟨hnbits, -⟩ := hi.ended hp
    exact (hnbits ▸ dataCount_le _ : s.nbits ≤ 41).not_gt hn

theorem BlockInv.exists_tickCase (hi : BlockInv s) : ∃ u, TickCase s u :=
  (tickCase_or_faultCase s).resolve_right fun ⟨_, hf⟩ => hi.not_faultCase hf

/-- Settles O38: a tick that does not stop is one of the cases of the inversion lemma. -/
theorem invariantStatesStep : Obligations.InvariantStatesStep := fun _ hi =>
  let ⟨_, hu⟩ := hi.exists_tickCase
  ⟨_, step_of_case hu⟩

/-! ### No hang -/

/-- A bound on the ticks left of the phase. In SAMPLE the level being timed and each transition still to come may last
TIMEOUT_COUNT ticks (R97). -/
def ticksInPhase (s : State) : Nat :=
  match s.phase with
  | .idle => 0
  | .settle | .resetlow | .release => drivenTicks s.cfg.toParams s.phase - s.tmr
  | .sample => (s.cfg.maxTransitions - s.tidx) * s.cfg.timeoutCount - s.dur
  | .eval => 1

/-- A bound on the ticks from the end of a phase to IDLE, through the phases after it (R13). -/
def ticksAfter (p : Params) : Phase → Nat
  | .settle      => p.resetTicks + (p.releaseTicks + (p.maxTransitions * p.timeoutCount + 1))
  | .resetlow    => p.releaseTicks + (p.maxTransitions * p.timeoutCount + 1)
  | .release     => p.maxTransitions * p.timeoutCount + 1
  | .sample      => 1
  | .eval | .idle => 0

/-- A bound on the ticks from a state to IDLE. -/
def ticksToReady (s : State) : Nat := ticksInPhase s + ticksAfter s.cfg.toParams s.phase

theorem ticksInPhase_of_driven (hp : Driven s.phase) :
    ticksInPhase s = drivenTicks s.cfg.toParams s.phase - s.tmr := by
  obtain hp | hp | hp := hp <;> simp only [ticksInPhase, hp]

theorem ticksInPhase_of_sample (hp : s.phase = .sample) :
    ticksInPhase s = (s.cfg.maxTransitions - s.tidx) * s.cfg.timeoutCount - s.dur := by
  simp only [ticksInPhase, hp]

theorem ticksToReady_le (s : State) : ticksToReady s ≤
    s.cfg.settleTicks + s.cfg.resetTicks + s.cfg.releaseTicks + s.cfg.maxTransitions * s.cfg.timeoutCount + 1 := by
  have hpass : (s.cfg.maxTransitions - s.tidx) * s.cfg.timeoutCount ≤ s.cfg.maxTransitions * s.cfg.timeoutCount :=
    Nat.mul_le_mul_right _ (Nat.sub_le _ _)
  cases hp : s.phase
  all_goals
    simp only [ticksToReady, ticksInPhase, ticksAfter, drivenTicks, hp]
    omega

/-- The ticks the transitions from the present one on may take, and those from the next one on. -/
theorem BlockInv.transitions_left (hi : BlockInv s) (hp : s.phase = .sample) :
    (s.cfg.maxTransitions - s.tidx) * s.cfg.timeoutCount =
      (s.cfg.maxTransitions - (s.tidx + 1)) * s.cfg.timeoutCount + s.cfg.timeoutCount := by
  obtain ⟨-, htidx, -⟩ := hi.sampling hp
  rw [← Nat.succ_mul, ← Nat.sub_sub, Nat.succ_eq_add_one, Nat.sub_add_cancel (Nat.sub_pos_of_lt htidx)]

theorem BlockInv.ticksInPhase_pos (hi : BlockInv s) (hb : s.phase ≠ .idle) : 0 < ticksInPhase s := by
  have hdriven (hd : Driven s.phase) : 0 < ticksInPhase s := by
    rw [ticksInPhase_of_driven hd]
    exact Nat.sub_pos_of_lt (hi.driven hd)
  cases hp : s.phase with
  | idle => exact absurd hp hb
  | settle => exact hdriven (.inl hp)
  | resetlow => exact hdriven (.inr (.inl hp))
  | release => exact hdriven (.inr (.inr hp))
  | sample =>
    obtain ⟨hdur, -⟩ := hi.sampling hp
    rw [ticksInPhase_of_sample hp, hi.transitions_left hp]
    omega
  | eval => simp only [ticksInPhase, hp, Nat.one_pos]

/-- A tick that stays in its phase brings the phase's end nearer. -/
theorem ticksToReady_lt_of_stay (hcfg : u.cfg = s.cfg) (hp : u.phase = s.phase) (h : ticksInPhase u < ticksInPhase s) :
    ticksToReady u < ticksToReady s := by
  rw [ticksToReady, ticksToReady, hcfg, hp]
  exact Nat.add_lt_add_right h _

/-- A tick that leaves its phase has the phases after it left. -/
theorem BlockInv.ticksToReady_lt_of_leave (hi : BlockInv s) (hb : s.phase ≠ .idle)
    (h : ticksToReady u = ticksAfter s.cfg.toParams s.phase) : ticksToReady u < ticksToReady s := by
  rw [h, ticksToReady]
  exact Nat.lt_add_of_pos_left (hi.ticksInPhase_pos hb)

/-- Each tick outside IDLE brings the block nearer to IDLE, whatever the line shows. -/
theorem BlockInv.ticksToReady_lt (hi : BlockInv s) (h : TickCase s u) (hr : s.inp.rst = false) (hb : s.phase ≠ .idle) :
    ticksToReady u < ticksToReady s := by
  cases h with
  | reset hr' => cases hr.symm.trans hr'
  | wait _ hp => exact absurd hp hb
  | init ha | reserved ha | hit _ ha | miss _ ha => exact absurd ha.phase_eq hb
  | count _ hp =>
    refine ticksToReady_lt_of_stay rfl rfl ?_
    have hlt := hi.driven hp
    rw [ticksInPhase_of_driven hp, ticksInPhase_of_driven (s := countTmr s) hp, countTmr_phase, countTmr_cfg,
      countTmr_tmr]
    omega
  | countLevel _ hp =>
    refine ticksToReady_lt_of_stay rfl rfl ?_
    have hpos := hi.ticksInPhase_pos hb
    rw [ticksInPhase_of_sample hp] at hpos ⊢
    rw [ticksInPhase_of_sample (s := countDur s) hp, countDur_cfg, countDur_tidx, countDur_dur]
    omega
  | transition _ hp =>
    have hp' : (completeTransition s).phase = .sample := (completeTransition_phase s).trans hp
    refine ticksToReady_lt_of_stay (completeTransition_cfg s) (completeTransition_phase s) ?_
    obtain ⟨hdur, -⟩ := hi.sampling hp
    rw [ticksInPhase_of_sample hp, hi.transitions_left hp, ticksInPhase_of_sample hp', completeTransition_cfg,
      completeTransition_tidx, completeTransition_dur]
    omega
  | toResetlow _ hp | toRelease _ hp | toSample _ hp | timeout _ hp | cap _ hp | success _ hp | failure _ _ hp =>
    exact hi.ticksToReady_lt_of_leave hb (by rw [hp]; rfl)

/-- Without a reset the block comes to IDLE within any number of ticks that `ticksToReady` does not exceed. -/
theorem BlockInv.becomes_idle {n : Nat} (hi : BlockInv s) (hle : ticksToReady s ≤ n) (hn : NoReset s n) :
    ∃ k u, k ≤ n ∧ runTicks k s = .next u ∧ u.phase = .idle := by
  induction n generalizing s with
  | zero =>
    have hp : s.phase = .idle := by
      by_contra hb
      exact (Nat.add_pos_left (hi.ticksInPhase_pos hb) _).not_ge hle
    exact ⟨0, s, le_rfl, rfl, hp⟩
  | succ n ih =>
    by_cases hp : s.phase = .idle
    · exact ⟨0, s, n.succ.zero_le, rfl, hp⟩
    · obtain ⟨v, hv⟩ := hi.exists_tickCase
      have hstep := step_of_case hv
      have hlt := hi.ticksToReady_lt hv (hn 0 n.succ_pos) hp
      have hle' : ticksToReady (advanceInputs v) ≤ n := Nat.le_of_lt_succ (hlt.trans_le hle)
      obtain ⟨k, u, hk, hrun, hu⟩ := ih (hi.of_step hstep) hle' (noReset_step hstep hn)
      exact ⟨k + 1, u, Nat.succ_le_succ hk, (runTicks_succ hstep k).trans hrun, hu⟩

/-- Settles O52: the count of ticks left starts within the bound, falls with each tick, and ends in IDLE. -/
theorem blockBecomesReady : Obligations.BlockBecomesReady := by
  intro s hi N hn
  obtain ⟨k, u, hk, hrun, hp⟩ := hi.becomes_idle (ticksToReady_le s) hn
  exact ⟨k, u, hk, hrun, (cmdReady_eq_true_iff u).2 hp⟩

/-! ### Elaboration -/

theorem modelOfTag_of_two_le {n : Nat} (h : 2 ≤ n) : modelOfTag n = none := by
  obtain ⟨k, rfl⟩ := Nat.exists_eq_add_of_le' h
  rfl

theorem elaborateConfig_of_none {r : Request} (h : modelOfTag r.modelTag = none) :
    elaborateConfig r = .error .unrecognisedModel := by
  rw [elaborateConfig, h]

theorem elaborateConfig_of_wf {r : Request} {m : SensorModel} (hm : modelOfTag r.modelTag = some m)
    (h : (r.params m).wf = true) : elaborateConfig r = .ok { toParams := r.params m, legal := h } := by
  simp only [elaborateConfig, hm, dif_pos h]

theorem elaborateConfig_of_not_wf {r : Request} {m : SensorModel} (hm : modelOfTag r.modelTag = some m)
    (h : ¬ (r.params m).wf = true) : elaborateConfig r = .error .badParameter := by
  simp only [elaborateConfig, hm, dif_neg h]

/-- Settles O49: the constraints as the statement writes them are those of the check (`Params.wf_iff`). -/
theorem elaborationRefusesBadConfigurations : Obligations.ElaborationRefusesBadConfigurations := by
  intro r
  refine ⟨fun h => elaborateConfig_of_none (modelOfTag_of_two_le h), fun m hm => ⟨fun h => ?legal, fun h => ?illegal⟩,
    rfl, rfl⟩
  case legal => exact ⟨_, elaborateConfig_of_wf hm ((Params.wf_iff (r.params m)).2 h), rfl⟩
  case illegal => exact elaborateConfig_of_not_wf hm (mt (Params.wf_iff (r.params m)).1 h)

end Sys2Proof.Machine
end

section
/-! PROOFS. Reset and hazards (70_reset_and_hazards.md): the reset step overrides whatever the block is doing (R175). -/

namespace Sys2Proof.Machine

variable {s : State}

/-! ### The reset step -/

theorem irqInhibit_of_idle (h : s.phase = .idle) : irqInhibit s = false := by
  rw [irqInhibit, h]

/-- Settles O10: the case `reset` of the tick, whose writes the passing of the inputs leaves; the outputs are those of the
IDLE it writes. -/
theorem resetStepOverrides : Obligations.ResetStepOverrides := by
  intro s hr
  have hp : (advanceInputs (resetRegisters s)).phase = .idle := by simp
  have hcfg : (advanceInputs (resetRegisters s)).cfg = s.cfg := by simp
  exact ⟨_, step_of_case (.reset hr), hp, rfl, rfl, rfl, rfl, hcfg, lineOe_of_idle hp, irqInhibit_of_idle hp,
    (cmdReady_eq_true_iff _).2 hp⟩

end Sys2Proof.Machine
end
